-- ==== Sys2Proof/Word.lean ====
section
/-! DEFINITION. The words of RF433-CORE. Every value is unsigned (00_scope.md R12). -/

namespace Sys2Proof

/-- A data byte (u8). -/
abbrev Byte := BitVec 8

/-- A 16-bit register or read-port word (u16). -/
abbrev Half := BitVec 16

/-- A command word, as written to the CMD port (30_encoding.md R80). -/
abbrev Word := BitVec 32

end Sys2Proof
end

