-- ==== Sys2Proof/Syntax.lean ====
section
/-! DEFINITION. The commands of RF433-CORE (30_encoding.md R83), one constructor per row of
spec/opcode_table.json. Each operand has exactly its format's range (R82), so that no command
with an operand that does not fit can be written. -/

namespace Sys2Proof

/-- One command. -/
inductive Instr
  /-- NOP (45_system.md R240). -/
  | nop
  /-- CRC_INIT (40_crc.md R103). -/
  | crcInit
  /-- CRC_UPD B (40_crc.md R104). -/
  | crcUpd (b : Byte)
  /-- MAN_ENC B (41_manchester.md R127). -/
  | manEnc (b : Byte)
  /-- MAN_DEC W (41_manchester.md R128). -/
  | manDec (w : Half)
  /-- RX_TICK L (42_pulse_classifier.md R151). -/
  | rxTick (l : Bool)
  /-- RX_APPEND L (42_pulse_classifier.md R152). -/
  | rxAppend (l : Bool)
  /-- RX_CLEAR (42_pulse_classifier.md R153). -/
  | rxClear
  /-- SYNC_SCAN (43_frame_sync.md R175). -/
  | syncScan
  /-- RX_DECODE (44_packet_framer.md R220). -/
  | rxDecode
  /-- TX_BEGIN (44_packet_framer.md R198). -/
  | txBegin
  /-- TX_PUSH B (44_packet_framer.md R199). -/
  | txPush (b : Byte)
  /-- TX_BUILD (44_packet_framer.md R200). -/
  | txBuild
  /-- TX_STEP (44_packet_framer.md R201). -/
  | txStep
  /-- STAT_CLR (45_system.md R241). -/
  | statClr
  /-- SOFT_RESET (45_system.md R242). -/
  | softReset
deriving DecidableEq, Repr

end Sys2Proof
end

