-- ==== Sys2Proof/Machine/Operands.lean ====
section
/-! DEFINITION. The layout of a command word and its four operand formats (30_encoding.md R80 to
R83), with the bit helpers the other files use. -/

namespace Sys2Proof

/-- Bit `b` at position `i` of an otherwise zero word. -/
def bitAt (n : Nat) (b : Bool) (i : Nat) : BitVec n := (BitVec.ofBool b).setWidth n <<< i

/-- OPC = w[31:24] (30_encoding.md R81). -/
def opcOf (w : Word) : Byte := w.extractLsb' 24 8

/-- RSV = w[23:16] (30_encoding.md R81). -/
def rsvOf (w : Word) : Byte := w.extractLsb' 16 8

/-- IMM = w[15:0] (30_encoding.md R81). -/
def immOf (w : Word) : Half := w.extractLsb' 0 16

/-- The four operand formats (30_encoding.md R82). -/
inductive Format
  /-- No operand. -/
  | f0
  /-- A level L = IMM[0]. -/
  | f1
  /-- A byte B = IMM[7:0]. -/
  | f8
  /-- A word W = IMM[15:0]. -/
  | f16
deriving DecidableEq, Repr

/-- The names of the 16 commands. -/
inductive Mnemonic
  | nop | crcInit | crcUpd | manEnc | manDec | rxTick | rxAppend | rxClear
  | syncScan | rxDecode | txBegin | txPush | txBuild | txStep | statClr | softReset
deriving DecidableEq, Repr

/-- Every mnemonic, in the order of the opcode table. -/
def Mnemonic.all : List Mnemonic :=
  [.nop, .crcInit, .crcUpd, .manEnc, .manDec, .rxTick, .rxAppend, .rxClear,
   .syncScan, .rxDecode, .txBegin, .txPush, .txBuild, .txStep, .statClr, .softReset]

/-- The opcode map (30_encoding.md R83). -/
def Mnemonic.opc : Mnemonic → Byte
  | .nop => 0x00#8
  | .crcInit => 0x01#8
  | .crcUpd => 0x02#8
  | .manEnc => 0x10#8
  | .manDec => 0x11#8
  | .rxTick => 0x20#8
  | .rxAppend => 0x21#8
  | .rxClear => 0x22#8
  | .syncScan => 0x23#8
  | .rxDecode => 0x24#8
  | .txBegin => 0x30#8
  | .txPush => 0x31#8
  | .txBuild => 0x32#8
  | .txStep => 0x33#8
  | .statClr => 0x70#8
  | .softReset => 0x7F#8

/-- Each command's operand format (30_encoding.md R82, R83). -/
def Mnemonic.format : Mnemonic → Format
  | .crcUpd | .manEnc | .txPush => .f8
  | .manDec => .f16
  | .rxTick | .rxAppend => .f1
  | .nop | .crcInit | .rxClear | .syncScan | .rxDecode | .txBegin | .txBuild | .txStep
  | .statClr | .softReset => .f0

/-- The must-be-zero bits of IMM (30_encoding.md R82). -/
def Format.mustBeZero : Format → Half
  | .f0 => 0xFFFF#16
  | .f1 => 0xFFFE#16
  | .f8 => 0xFF00#16
  | .f16 => 0x0000#16

/-- The bit operand L = IMM[0] (30_encoding.md R81). -/
def levelOperand (imm : Half) : Bool := imm.getLsbD 0

/-- The byte operand B = IMM[7:0] (30_encoding.md R81). -/
def byteOperand (imm : Half) : Byte := imm.setWidth 8

/-- The operand field of an F1 command that carries level `l`. -/
def immOfLevel (l : Bool) : Half := bitAt 16 l 0

/-- The operand field of an F8 command that carries byte `b`. -/
def immOfByte (b : Byte) : Half := b.setWidth 16

/-- The command a mnemonic names with operand field `imm` (30_encoding.md R81, R84). -/
def Mnemonic.build (m : Mnemonic) (imm : Half) : Instr :=
  match m with
  | .nop => .nop
  | .crcInit => .crcInit
  | .crcUpd => .crcUpd (byteOperand imm)
  | .manEnc => .manEnc (byteOperand imm)
  | .manDec => .manDec imm
  | .rxTick => .rxTick (levelOperand imm)
  | .rxAppend => .rxAppend (levelOperand imm)
  | .rxClear => .rxClear
  | .syncScan => .syncScan
  | .rxDecode => .rxDecode
  | .txBegin => .txBegin
  | .txPush => .txPush (byteOperand imm)
  | .txBuild => .txBuild
  | .txStep => .txStep
  | .statClr => .statClr
  | .softReset => .softReset

/-- A command's mnemonic. -/
def Instr.mnemonic : Instr → Mnemonic
  | .nop => .nop
  | .crcInit => .crcInit
  | .crcUpd _ => .crcUpd
  | .manEnc _ => .manEnc
  | .manDec _ => .manDec
  | .rxTick _ => .rxTick
  | .rxAppend _ => .rxAppend
  | .rxClear => .rxClear
  | .syncScan => .syncScan
  | .rxDecode => .rxDecode
  | .txBegin => .txBegin
  | .txPush _ => .txPush
  | .txBuild => .txBuild
  | .txStep => .txStep
  | .statClr => .statClr
  | .softReset => .softReset

/-- A command's operand field (30_encoding.md R81, R82). -/
def Instr.imm : Instr → Half
  | .crcUpd b | .manEnc b | .txPush b => immOfByte b
  | .manDec w => w
  | .rxTick l | .rxAppend l => immOfLevel l
  | .nop | .crcInit | .rxClear | .syncScan | .rxDecode | .txBegin | .txBuild | .txStep
  | .statClr | .softReset => 0#16

end Sys2Proof
end

