-- ==== Sys2Proof/Decode.lean ====
section
/-! DEFINITION. The decoder of command words, total on every 32-bit word and rejecting by name
(30_encoding.md R84), and the encoder. A command is one whole 32-bit word: there are no bytes and
no byte order (20_memory.md R66; log 14, DEDUCED). -/

namespace Sys2Proof

/-- Why a word is illegal (30_encoding.md R85). All three have the one effect CMD_ERR <- 1. -/
inductive Illegal
  /-- An OPC outside the table of R83. -/
  | unassignedOpc
  /-- A nonzero RSV. -/
  | reservedField
  /-- A nonzero must-be-zero operand bit. -/
  | mustBeZeroBits
deriving DecidableEq, Repr

/-- The row of 30_encoding.md R83 that an opcode selects. -/
def mnemonicOf (opc : Byte) : Option Mnemonic := Mnemonic.all.find? fun m => m.opc == opc

/-- `decode(w)` (30_encoding.md R84), its checks in the order written there. -/
def decode (w : Word) : Except Illegal Instr :=
  match mnemonicOf (opcOf w) with
  | none => .error .unassignedOpc
  | some m =>
    if rsvOf w ≠ 0#8 then .error .reservedField
    else if immOf w &&& m.format.mustBeZero ≠ 0#16 then .error .mustBeZeroBits
    else .ok (m.build (immOf w))

/-- The word of a command: OPC, a zero RSV, IMM (30_encoding.md R80, R88). -/
def encode (i : Instr) : Word := i.mnemonic.opc ++ 0#8 ++ i.imm

/-- The command this decoder reads from an instruction whose bits are `w`, numbered as the opcode
table numbers them. Every command is one 32-bit word (30_encoding.md R80), so a longer instruction
does not exist. -/
def decodeTableWord (nbits w : Nat) : Option Instr :=
  if nbits ≤ 32 then (decode (BitVec.ofNat 32 (w % 2 ^ nbits))).toOption else none

end Sys2Proof
end

