-- ==== Sys2Proof/Config.lean ====
section
/-! DEFINITION. The parameters of RF433-CORE (00_scope.md R9) and the free values. -/

namespace Sys2Proof

/-- What an invalid Manchester pair, (0,0) or (1,1), decodes to (41_manchester.md R124). -/
inductive ManPolicy
  /-- The first sample decides. The default. -/
  | firstSample
  /-- A free draw of 0 or 1 per invalid pair. -/
  | draw
deriving DecidableEq, Repr

/-- The parameter table of 00_scope.md R9, one field a row. FB_CAP is `Config.fbCap` (log 13, DEDUCED). -/
structure Config where
  /-- RAW_CAP: capacity of RAW in line bits. -/
  rawCap : Nat
  /-- DEC_CAP: capacity of DEC in bytes. -/
  decCap : Nat
  /-- TX_CAP: capacity of TXP in payload bytes. -/
  txCap : Nat
  /-- PCNT_MAX: saturation value of the 8-bit tick counter. -/
  pcntMax : Byte
  /-- T_NOISE: a pulse shorter than this many ticks is noise. -/
  tNoise : Nat
  /-- T1_LO: the single-bit band's first duration. -/
  t1Lo : Nat
  /-- T1_HI: the single-bit band's last duration. -/
  t1Hi : Nat
  /-- T2_LO: the double-bit band's first duration. -/
  t2Lo : Nat
  /-- T2_HI: the double-bit band's last duration. -/
  t2Hi : Nat
  /-- TRIG_MIN: an idle pulse decodes when RAWN exceeds this. -/
  trigMin : Nat
  /-- SYNC_PATTERN: what the sync shift register is compared with. -/
  syncPattern : Byte
  /-- SYNC_SR_INIT: the sync shift register at the start of a scan. -/
  syncSrInit : Byte
  /-- PREAMBLE, first byte. -/
  preamble0 : Byte
  /-- PREAMBLE, second byte. -/
  preamble1 : Byte
  /-- SYNC_BYTE: the sync data byte of the frame. -/
  syncByte : Byte
  /-- LEN_BIAS: LEN = payload length + LEN_BIAS (90_conflicts.md C1). -/
  lenBias : Nat
  /-- CRC_POLY: the generator polynomial, normal form. -/
  crcPoly : Half
  /-- CRC_SEED: the CRC's initial value. -/
  crcSeed : Half
  /-- CRC_REFLECTED: the bit order of CRC processing, false = most significant bit first. -/
  crcReflected : Bool
  /-- CRC_XOROUT: the final XOR of `crc16`. -/
  crcXorout : Half
  /-- EXPECTED_PLEN: the payload length the length gate accepts. -/
  expectedPlen : Nat
  /-- IDLE_LEVEL: the level TX_OUT drives when no frame is in progress. -/
  idleLevel : Bool
  /-- MAN_POLICY. -/
  manPolicy : ManPolicy
deriving DecidableEq, Repr

/-- FB_CAP = TX_CAP + 6, the capacity of FBUF in bytes (00_scope.md R9). -/
def Config.fbCap (c : Config) : Nat := c.txCap + 6

/-- The default column of 00_scope.md R9: the values this hardware takes. -/
def Config.default : Config where
  rawCap := 512
  decCap := 32
  txCap := 26
  pcntMax := 255#8
  tNoise := 5
  t1Lo := 13
  t1Hi := 17
  t2Lo := 29
  t2Hi := 35
  trigMin := 30
  syncPattern := 0xA5#8
  syncSrInit := 0x00#8
  preamble0 := 0x00#8
  preamble1 := 0x00#8
  syncByte := 0x03#8
  lenBias := 3
  crcPoly := 0x1021#16
  crcSeed := 0xFFFF#16
  crcReflected := false
  crcXorout := 0x0000#16
  expectedPlen := 5
  idleLevel := false
  manPolicy := .firstSample

/-- Free value (log 4, DESIGN CHOICE): the draws of MAN_POLICY = DRAW. Bit i of the n-th byte is the decoded
value of data bit i of the n-th byte decoded, wherever that bit's pair is invalid. It has no
body, so a theorem holds whatever is drawn. -/
opaque Config.freeByte : Nat → Byte

/-- CORE_BASE (20_memory.md R71, 92_eei_decisions.md OPEN-1; log 5, DESIGN CHOICE): where a platform places the
block in a host's address space. Used by no rule, and open: it has no body. -/
opaque Config.coreBase : Nat

end Sys2Proof
end

