-- ==== Sys2Proof/Machine/State.lean ====
section
/-! DEFINITION. The state of RF433-CORE as plain data (10_state.md), and the state after reset
(10_state.md R54). Each buffer is the list of its first BUFN elements, and its count is the list's
length (R47; log 6, DEDUCED). STATUS is the view of the ten one-bit registers (R45). -/

namespace Sys2Proof.Machine

/-- Which buffer an Overflow event reports (60_exceptions.md R262). -/
inductive OverflowKind
  | raw | dec | tx
deriving DecidableEq, Repr

/-- The events of the report trace (60_exceptions.md R262); equality is that of R263. -/
inductive Event
  /-- Decoded(found, dstart, nb). -/
  | decoded (found : Bool) (dstart nb : Half)
  /-- CrcOk(calc). -/
  | crcOk (computed : Half)
  /-- CrcMismatch(calc, recv). -/
  | crcMismatch (computed received : Half)
  /-- LenMismatch(n). -/
  | lenMismatch (n : Half)
  /-- Record(bytes). -/
  | record (bytes : List Byte)
  /-- Overflow(which). -/
  | overflow (which : OverflowKind)
deriving DecidableEq, Repr

/-- What arrives at the block's inputs, in order (10_state.md R20; 20_memory.md R72; log 1, DESIGN CHOICE). -/
inductive Input
  /-- A word written to the CMD port, by the host or by the tick source. -/
  | cmd (w : Word)
  /-- A pulse of the RST port, taken between two commands (70_reset_and_hazards.md R290). -/
  | rst
deriving DecidableEq, Repr

/-- Every piece of state of 10_state.md, with the configuration and the model's own `inputs` and
`draws`. The block has no memory beside its registers and buffers (log 15, DEDUCED). -/
structure State where
  /-- The parameters of 00_scope.md R9. No step changes them (log 3, DESIGN CHOICE). -/
  cfg : Config
  /-- CRC (R22). -/
  crc : Half
  /-- MENC (R23). -/
  menc : Half
  /-- MDEC (R24). -/
  mdec : Byte
  /-- PLVL (R25). -/
  plvl : Bool
  /-- PCNT (R26). -/
  pcnt : Byte
  /-- RAW, its length RAWN (R27). -/
  raw : List Bool
  /-- RAW_OVF, STATUS bit 4 (R28). -/
  rawOvf : Bool
  /-- SYNC_SR (R29). -/
  syncSr : Byte
  /-- DSTART (R30). -/
  dstart : Half
  /-- SYNC_FOUND, STATUS bit 0 (R31). -/
  syncFound : Bool
  /-- DEC, its length DECN (R32). -/
  dec : List Byte
  /-- DEC_OVF, STATUS bit 5 (R33). -/
  decOvf : Bool
  /-- RXCRC_CALC (R34). -/
  rxcrcCalc : Half
  /-- RXCRC_RECV (R35). -/
  rxcrcRecv : Half
  /-- PLEN (R36). -/
  plen : Half
  /-- CRC_OK, STATUS bit 1 (R37). -/
  crcOk : Bool
  /-- LEN_OK, STATUS bit 2 (R37). -/
  lenOk : Bool
  /-- REC_VALID, STATUS bit 3 (R37). -/
  recValid : Bool
  /-- TXP, its length TXPN (R38). -/
  txp : List Byte
  /-- TX_OVF, STATUS bit 6 (R39). -/
  txOvf : Bool
  /-- FBUF, its length FBN (R40). -/
  fbuf : List Byte
  /-- TXBYTE (R41). -/
  txbyte : Half
  /-- TXHALF (R41). -/
  txhalf : BitVec 4
  /-- TX_BUSY, STATUS bit 7 (R42). -/
  txBusy : Bool
  /-- TX_OUT (R43). -/
  txOut : Bool
  /-- CMD_ERR, STATUS bit 8 (R44). -/
  cmdErr : Bool
  /-- RX_DONE, STATUS bit 9 (R44). -/
  rxDone : Bool
  /-- The report trace, first event first (R46). -/
  trace : List Event
  /-- The model's own (log 1, DESIGN CHOICE): what has been written to CMD or pulsed on RST and not yet taken,
  oldest first. -/
  inputs : List Input
  /-- The model's own (log 4, DESIGN CHOICE): how many bytes of `Config.freeByte` have been drawn. -/
  draws : Nat
deriving DecidableEq, Repr

/-- RF433-CORE has no fault (60_exceptions.md R260, R276): every word in every state has a defined
next state. So nothing raises one, and the type is empty. -/
inductive Fault
deriving DecidableEq, Repr

/-- Why the model answers no next state. -/
inductive Refusal
  /-- Raised by an arm of `exec` for a command without a meaning. No arm raises it. Safe. -/
  | notModelled (mnemonic : String)
  /-- Raised by `step`, before any command, when the configuration breaks 00_scope.md R10
  (60_exceptions.md R276). Safe. -/
  | badConfig
deriving DecidableEq, Repr

/-- The reset table of 10_state.md R54 for a configuration: CRC is CRC_SEED and TX_OUT is
IDLE_LEVEL (70_reset_and_hazards.md R291; log 9, DEDUCED), everything else zero or empty. -/
def State.resetFor (c : Config) : State where
  cfg := c
  crc := c.crcSeed
  menc := 0#16
  mdec := 0#8
  plvl := false
  pcnt := 0#8
  raw := []
  rawOvf := false
  syncSr := 0#8
  dstart := 0#16
  syncFound := false
  dec := []
  decOvf := false
  rxcrcCalc := 0#16
  rxcrcRecv := 0#16
  plen := 0#16
  crcOk := false
  lenOk := false
  recValid := false
  txp := []
  txOvf := false
  fbuf := []
  txbyte := 0#16
  txhalf := 0#4
  txBusy := false
  txOut := c.idleLevel
  cmdErr := false
  rxDone := false
  trace := []
  inputs := []
  draws := 0

/-- The machine right after power-on reset, with the default parameters (10_state.md R54,
70_reset_and_hazards.md R290; log 10, DESIGN CHOICE). -/
def State.reset : State := State.resetFor Config.default

/-- What a command's meaning answers. -/
abbrev Result := Host.Outcome State Fault Refusal

end Sys2Proof.Machine
end

