-- ==== Sys2Proof/Machine/Flags.lean ====
section
/-! DEFINITION. STATUS and the sticky flags (10_state.md R44, R45). The other flags are written by
the operations whose rules name them. -/

namespace Sys2Proof.Machine

/-- STATUS: bit 0 SYNC_FOUND to bit 9 RX_DONE, bits 15:10 zero (10_state.md R45). -/
def State.status (s : State) : Half :=
  bitAt 16 s.syncFound 0 ||| bitAt 16 s.crcOk 1 ||| bitAt 16 s.lenOk 2 ||| bitAt 16 s.recValid 3 |||
  bitAt 16 s.rawOvf 4 ||| bitAt 16 s.decOvf 5 ||| bitAt 16 s.txOvf 6 ||| bitAt 16 s.txBusy 7 |||
  bitAt 16 s.cmdErr 8 ||| bitAt 16 s.rxDone 9

/-- The whole effect of an illegal or refused command: CMD_ERR <- 1 (30_encoding.md R85, R86). -/
def State.commandError (s : State) : State := { s with cmdErr := true }

/-- The effect of STAT_CLR: CMD_ERR <- 0; RX_DONE <- 0 (45_system.md R241). -/
def State.clearSticky (s : State) : State := { s with cmdErr := false, rxDone := false }

end Sys2Proof.Machine
end

