-- ==== Sys2Proof/Machine/Ops.lean ====
section
/-! DEFINITION. The shared operations over the registers, the buffers and the report trace.
RF433-CORE takes no exception and returns from none (60_exceptions.md R260, R269); what an illegal
or refused command does instead is `State.commandError` in Flags.lean. -/

namespace Sys2Proof.Machine

/-- A count as its 16-bit register reads it (10_state.md R27, R32, R38, R40). Exact under the
capacities of 00_scope.md R10 (log 12, DEDUCED). -/
def countWord (n : Nat) : Half := BitVec.ofNat 16 n

/-- Element `i` of a byte buffer. An index past the count reads 0 (10_state.md R47, R48; log 7, DESIGN CHOICE). -/
def byteAt (buf : List Byte) (i : Nat) : Byte := buf.getD i 0#8

/-- Element `i` of RAW. An index past the count reads 0 (10_state.md R47, R48; log 7, DESIGN CHOICE). -/
def rawAt (buf : List Bool) (i : Nat) : Bool := buf.getD i false

/-- `emit E`: append one event to the report trace (10_state.md R46). -/
def State.emit (s : State) (e : Event) : State := { s with trace := s.trace ++ [e] }

/-- `raw_push(x)` (42_pulse_classifier.md R146). -/
def State.rawPush (s : State) (x : Bool) : State :=
  if s.raw.length < s.cfg.rawCap then { s with raw := s.raw ++ [x] } else { s with rawOvf := true }

/-- `raw_clear()` (42_pulse_classifier.md R147). -/
def State.rawClear (s : State) : State := { s with raw := [], rawOvf := false }

/-- `tx_push(B)` (44_packet_framer.md R194). -/
def State.txPush (s : State) (b : Byte) : State :=
  if s.txp.length < s.cfg.txCap then { s with txp := s.txp ++ [b] }
  else { s with txOvf := true }.emit (.overflow .tx)

/-- `invalidate_results()` (44_packet_framer.md R210). -/
def State.invalidateResults (s : State) : State :=
  { s with dec := [], plen := 0#16, rxcrcCalc := 0#16, rxcrcRecv := 0#16,
           crcOk := false, lenOk := false, recValid := false }

/-- `n` more bytes have been decoded: under MAN_POLICY = DRAW their free bytes are used up (log 4, DESIGN CHOICE). -/
def State.useDraws (s : State) (n : Nat) : State :=
  match s.cfg.manPolicy with
  | .firstSample => s
  | .draw => { s with draws := s.draws + n }

/-- `reset_state()` (70_reset_and_hazards.md R290): the table of 10_state.md R54. The report trace
stays, and so do the configuration, the inputs not yet taken and the count of draws, which are no
state of the block (log 11, DEDUCED). -/
def State.resetState (s : State) : State :=
  { State.resetFor s.cfg with trace := s.trace, inputs := s.inputs, draws := s.draws }

/-- The code of an event (60_exceptions.md R262). -/
def Event.code : Event → Nat
  | .decoded .. => 1
  | .crcOk .. => 2
  | .crcMismatch .. => 3
  | .lenMismatch .. => 4
  | .record .. => 5
  | .overflow .. => 6

/-- The field `which` of an Overflow event (60_exceptions.md R262). -/
def OverflowKind.code : OverflowKind → Byte
  | .raw => 0#8
  | .dec => 1#8
  | .tx => 2#8

end Sys2Proof.Machine
end

