-- ==== Sys2Proof/Machine/Crc.lean ====
section
/-! DEFINITION. The CRC unit (40_crc.md): the CRC function, the sequence function and the two
commands CRC_INIT and CRC_UPD. -/

namespace Sys2Proof.Machine

/-- One of the 8 shifts of `crc16_update`, most significant bit first (40_crc.md R100). -/
def crcShift (poly c : Half) : Half :=
  if c.getLsbD 15 then (c <<< 1) ^^^ poly else c <<< 1

/-- One of the 8 shifts of `crc16_update_reflected` (40_crc.md R100). The polynomial is given in
normal form and used bit-reversed: 0x1021 gives 0x8408 (log 8, DEDUCED). -/
def crcShiftReflected (poly c : Half) : Half :=
  if c.getLsbD 0 then (c >>> 1) ^^^ poly.reverse else c >>> 1

/-- `crc16_update(c, b)`, in the form CRC_REFLECTED selects (40_crc.md R100). -/
def crcUpdate (cfg : Config) (c : Half) (b : Byte) : Half :=
  if cfg.crcReflected then (crcShiftReflected cfg.crcPoly)^[8] (c ^^^ b.setWidth 16)
  else (crcShift cfg.crcPoly)^[8] (c ^^^ (b.setWidth 16 <<< 8))

/-- `crc16(seed, s)` (40_crc.md R101). -/
def crc16 (cfg : Config) (seed : Half) (s : List Byte) : Half :=
  s.foldl (crcUpdate cfg) seed ^^^ cfg.crcXorout

/-- CRC_INIT (40_crc.md R103). -/
def execCrcInit (s : State) : Result := .next { s with crc := s.cfg.crcSeed }

/-- CRC_UPD B (40_crc.md R104). CRC_XOROUT is not applied. -/
def execCrcUpd (b : Byte) (s : State) : Result := .next { s with crc := crcUpdate s.cfg s.crc b }

end Sys2Proof.Machine
end

