-- ==== Sys2Proof/Machine/FrameSync.lean ====
section
/-! DEFINITION. The frame synchronizer (43_frame_sync.md) and the command SYNC_SCAN. -/

namespace Sys2Proof.Machine

/-- What a scan leaves: SYNC_SR, DSTART and SYNC_FOUND. -/
structure ScanResult where
  /-- SYNC_SR. -/
  sr : Byte
  /-- DSTART, as a number. -/
  start : Nat
  /-- SYNC_FOUND. -/
  found : Bool
deriving DecidableEq, Repr

/-- The shift rule: the inverse of the raw bit enters at bit 0 (43_frame_sync.md R171). -/
def syncShift (sr : Byte) (r : Bool) : Byte := (sr <<< 1) ||| bitAt 8 (!r) 0

/-- The scan from index `i` on with shift register `sr` (43_frame_sync.md R170, R172, R173). -/
def scanFrom (pattern sr : Byte) (i : Nat) : List Bool → ScanResult
  | [] => ⟨sr, 0, false⟩
  | r :: rest =>
    if syncShift sr r = pattern then ⟨pattern, i + 1, true⟩
    else scanFrom pattern (syncShift sr r) (i + 1) rest

/-- The scan of a whole RAW buffer. -/
def scanRaw (cfg : Config) (raw : List Bool) : ScanResult :=
  scanFrom cfg.syncPattern cfg.syncSrInit 0 raw

/-- `sync_scan()` (43_frame_sync.md R173). -/
def State.syncScan (s : State) : State :=
  { s with syncSr := (scanRaw s.cfg s.raw).sr
           dstart := countWord (scanRaw s.cfg s.raw).start
           syncFound := (scanRaw s.cfg s.raw).found }

/-- SYNC_SCAN (43_frame_sync.md R175). -/
def execSyncScan (s : State) : Result := .next s.syncScan

end Sys2Proof.Machine
end

