-- ==== Sys2Proof/Machine/Manchester.lean ====
section
/-! DEFINITION. The Manchester codec (41_manchester.md): the encoder in the line domain, the
decoder in the raw domain, and the commands MAN_ENC and MAN_DEC. -/

namespace Sys2Proof.Machine

/-- The two line levels of data bit `x`, the first in bit 1: 1 is (low, high), 0 is (high, low)
(41_manchester.md R121). -/
def linePair (x : Bool) : BitVec 2 := if x then 0b01#2 else 0b10#2

/-- `man_enc(b)`: pair `i` holds data bit `i` (41_manchester.md R120). -/
def manEnc (b : Byte) : Half :=
  (List.range 8).foldl (fun w i => w ||| ((linePair (b.getLsbD i)).setWidth 16 <<< (2 * i))) 0#16

/-- `pair_dec(A, B)` (41_manchester.md R124): a valid pair decodes by the source's table, an
invalid one by MAN_POLICY, where `free` is the draw of DRAW. -/
def pairDec (policy : ManPolicy) (free a b : Bool) : Bool :=
  if a ≠ b then a
  else match policy with
    | .firstSample => a
    | .draw => free

/-- `man_dec(w)` (41_manchester.md R123). Bit `i` of `free` is the draw of pair `i`. -/
def manDec (policy : ManPolicy) (free : Byte) (w : Half) : Byte :=
  (List.range 8).foldl
    (fun v i =>
      v ||| bitAt 8 (pairDec policy (free.getLsbD i) (w.getLsbD (2 * i + 1)) (w.getLsbD (2 * i))) i)
    0#8

/-- `man_dec_raw(p)`: the byte of the 16 raw bits from index `p`, the first pair bit 7
(41_manchester.md R125). -/
def manDecRaw (policy : ManPolicy) (free : Byte) (raw : List Bool) (p : Nat) : Byte :=
  (List.range 8).foldl
    (fun v k =>
      v ||| bitAt 8
        (pairDec policy (free.getLsbD (7 - k)) (rawAt raw (p + 2 * k)) (rawAt raw (p + 2 * k + 1)))
        (7 - k))
    0#8

/-- MAN_ENC B (41_manchester.md R127). -/
def execManEnc (b : Byte) (s : State) : Result := .next { s with menc := manEnc b }

/-- MAN_DEC W (41_manchester.md R128). -/
def execManDec (w : Half) (s : State) : Result :=
  .next ({ s with mdec := manDec s.cfg.manPolicy (Config.freeByte s.draws) w }.useDraws 1)

end Sys2Proof.Machine
end

