-- ==== Sys2Proof/Machine/PacketFramer.lean ====
section
/-! DEFINITION. The packet framer (44_packet_framer.md): the frame, the transmit commands TX_BEGIN,
TX_PUSH, TX_BUILD and TX_STEP, the receive pipeline and the command RX_DECODE. -/

namespace Sys2Proof.Machine

/-- LEN = (p + LEN_BIAS) mod 2^8 (44_packet_framer.md R191; 90_conflicts.md C1). -/
def lenByte (cfg : Config) (payload : List Byte) : Byte :=
  BitVec.ofNat 8 (payload.length + cfg.lenBias)

/-- The CRC of a frame: over LEN and the payload (44_packet_framer.md R191). -/
def frameCrc (cfg : Config) (payload : List Byte) : Half :=
  crc16 cfg cfg.crcSeed (lenByte cfg payload :: payload)

/-- `frame(P)` (44_packet_framer.md R191), the CRC's low byte first (20_memory.md R61). The preamble
and the sync byte are the parameters of 00_scope.md R9 (log 19, DEDUCED). -/
def frame (cfg : Config) (payload : List Byte) : List Byte :=
  [cfg.preamble0, cfg.preamble1, cfg.syncByte, lenByte cfg payload] ++ payload ++
    [(frameCrc cfg payload).extractLsb' 0 8, (frameCrc cfg payload).extractLsb' 8 8]

/-- The 16 line bits of one byte, `man_enc(b)` from bit 15 to bit 0 (20_memory.md R63). -/
def byteLine (b : Byte) : List Bool := (List.range 16).map fun j => (manEnc b).getLsbD (15 - j)

/-- The line image of a frame (44_packet_framer.md R192). -/
def lineImage (f : List Byte) : List Bool := f.flatMap byteLine

/-- TX_BEGIN (44_packet_framer.md R198). -/
def execTxBegin (s : State) : Result := .next { s with txp := [], txOvf := false }

/-- TX_PUSH B (44_packet_framer.md R199). -/
def execTxPush (b : Byte) (s : State) : Result := .next (s.txPush b)

/-- An accepted TX_BUILD (44_packet_framer.md R200). -/
def State.startFrame (s : State) : State :=
  { s with fbuf := frame s.cfg s.txp, txbyte := 0#16, txhalf := 0#4, txBusy := true }

/-- TX_BUILD, refused while TX_BUSY or TX_OVF (44_packet_framer.md R195, R200). -/
def execTxBuild (s : State) : Result :=
  .next (if s.txBusy || s.txOvf then s.commandError else s.startFrame)

/-- The line bit the sequencer drives next: `w[15 - TXHALF]` of `man_enc(FBUF[TXBYTE])`
(44_packet_framer.md R197). -/
def State.nextLineBit (s : State) : Bool :=
  (manEnc (byteAt s.fbuf s.txbyte.toNat)).getLsbD (15 - s.txhalf.toNat)

/-- The sequencer moves past one line bit (44_packet_framer.md R197). -/
def State.advanceTx (s : State) : State :=
  if s.txhalf = 15#4 then
    { s with txhalf := 0#4, txbyte := s.txbyte + 1#16,
             txBusy := s.txBusy && !decide ((s.txbyte + 1#16).toNat = s.fbuf.length) }
  else { s with txhalf := s.txhalf + 1#4 }

/-- TX_STEP: `tx_step()` (44_packet_framer.md R197, R201). -/
def execTxStep (s : State) : Result :=
  .next (if s.txBusy then { s with txOut := s.nextLineBit }.advanceTx
         else { s with txOut := s.cfg.idleLevel })

/-- The whole bytes after DSTART, `(RAWN - DSTART) div 16` (44_packet_framer.md R210, R211). -/
def wholeBytes (raw : List Bool) (dstart : Half) : Nat := (raw.length - dstart.toNat) / 16

/-- The bytes of the attempt: `DEC[j] = man_dec_raw(DSTART + 16*j)` for j < nb
(44_packet_framer.md R211). The first byte takes free byte `draws`, the next the one after. -/
def decodeBytes (policy : ManPolicy) (draws : Nat) (raw : List Bool) (dstart : Half) (nb : Nat) :
    List Byte :=
  (List.range nb).map fun j =>
    manDecRaw policy (Config.freeByte (draws + j)) raw (dstart.toNat + 16 * j)

/-- RXCRC_RECV: the trailer `DEC[n-2] | (DEC[n-1] << 8)`, 0 for n < 2 (44_packet_framer.md R214). -/
def parseRecv (dec : List Byte) : Half :=
  if 2 ≤ dec.length then
    (byteAt dec (dec.length - 2)).setWidth 16 |||
      ((byteAt dec (dec.length - 1)).setWidth 16 <<< 8)
  else 0#16

/-- RXCRC_CALC: the CRC over all bytes but the trailing two (44_packet_framer.md R214). -/
def parseCalc (cfg : Config) (dec : List Byte) : Half :=
  crc16 cfg cfg.crcSeed (dec.take (dec.length - 2))

/-- CRC_OK (44_packet_framer.md R214). -/
def parseCrcOk (cfg : Config) (dec : List Byte) : Bool :=
  decide (2 ≤ dec.length) && decide (parseCalc cfg dec = parseRecv dec)

/-- PLEN: n - 3 when n >= 3, else 0 (44_packet_framer.md R215). -/
def parsePlen (dec : List Byte) : Half := countWord (dec.length - 3)

/-- LEN_OK: the length gate (44_packet_framer.md R215). -/
def parseLenOk (cfg : Config) (dec : List Byte) : Bool :=
  decide (3 ≤ dec.length) && decide (dec.length - 3 = cfg.expectedPlen)

/-- The events of `parse()`, in order (44_packet_framer.md R214 to R216). -/
def parseEvents (cfg : Config) (dec : List Byte) : List Event :=
  [if parseCrcOk cfg dec then .crcOk (parseCalc cfg dec)
   else .crcMismatch (parseCalc cfg dec) (parseRecv dec)] ++
  (if parseLenOk cfg dec then [] else [.lenMismatch (countWord dec.length)]) ++
  (if parseCrcOk cfg dec && parseLenOk cfg dec then
    [.record ((dec.take (dec.length - 2)).drop 1)]
   else [])

/-- `parse()` (44_packet_framer.md R214 to R216). -/
def State.parse (s : State) : State :=
  { s with
    rxcrcRecv := parseRecv s.dec
    rxcrcCalc := parseCalc s.cfg s.dec
    crcOk := parseCrcOk s.cfg s.dec
    plen := parsePlen s.dec
    lenOk := parseLenOk s.cfg s.dec
    recValid := parseCrcOk s.cfg s.dec && parseLenOk s.cfg s.dec
    trace := s.trace ++ parseEvents s.cfg s.dec }

/-- The decoded bytes of `nb` whole bytes go to DEC and are parsed (44_packet_framer.md R210). -/
def State.acceptBytes (s : State) (nb : Nat) : State :=
  ({ s with
      decOvf := false
      dec := decodeBytes s.cfg.manPolicy s.draws s.raw s.dstart nb }.useDraws nb).parse

/-- Too many bytes for DEC: nothing is written to it (44_packet_framer.md R210, R212). -/
def State.rejectBytes (s : State) : State :=
  { s with decOvf := true }.invalidateResults.emit (.overflow .dec)

/-- An attempt that lost raw bits (44_packet_framer.md R210, R212). -/
def State.rejectAttempt (s : State) : State :=
  { s with decOvf := false }.invalidateResults.emit (.overflow .raw)

/-- The pipeline after the sync scan: report Decoded, then reject or decode and parse
(44_packet_framer.md R210). -/
def State.decodeAttempt (s : State) (nb : Nat) : State :=
  let t := s.emit (.decoded s.syncFound s.dstart (countWord nb))
  if s.cfg.decCap < nb then t.rejectBytes else t.acceptBytes nb

/-- `decode_pipeline()` (44_packet_framer.md R210, R212). -/
def State.decodePipeline (s : State) : State :=
  let t := { s with rxDone := true }
  if s.rawOvf then t.rejectAttempt
  else t.syncScan.decodeAttempt (wholeBytes s.raw t.syncScan.dstart)

/-- RX_DECODE: `decode_pipeline(); raw_clear()` (44_packet_framer.md R220). -/
def execRxDecode (s : State) : Result := .next s.decodePipeline.rawClear

end Sys2Proof.Machine
end

