-- ==== Sys2Proof/Machine/PulseClassifier.lean ====
section
/-! DEFINITION. The pulse classifier (42_pulse_classifier.md) and the commands RX_TICK, RX_APPEND
and RX_CLEAR. -/

namespace Sys2Proof.Machine

/-- The four classes of a transition (42_pulse_classifier.md R143). -/
inductive PulseClass
  | noise | single | double | idle
deriving DecidableEq, Repr

/-- The class of a transition of duration `d` (42_pulse_classifier.md R143, R151). -/
def classify (cfg : Config) (d : Nat) : PulseClass :=
  if d < cfg.tNoise then .noise
  else if cfg.t1Lo ≤ d ∧ d ≤ cfg.t1Hi then .single
  else if cfg.t2Lo ≤ d ∧ d ≤ cfg.t2Hi then .double
  else .idle

/-- PCNT <- min(PCNT + 1, PCNT_MAX) (42_pulse_classifier.md R142). -/
def State.countTick (s : State) : State :=
  { s with pcnt := BitVec.ofNat 8 (min (s.pcnt.toNat + 1) s.cfg.pcntMax.toNat) }

/-- `idle_terminate()` (42_pulse_classifier.md R148; log 20, DEDUCED). -/
def State.idleTerminate (s : State) : State :=
  (if s.cfg.trigMin < s.raw.length then s.decodePipeline else s).rawClear

/-- An accepted transition ends with PCNT <- 0; PLVL <- L (42_pulse_classifier.md R144). -/
def State.acceptLevel (s : State) (l : Bool) : State := { s with pcnt := 0#8, plvl := l }

/-- A transition to level `l`, after PCNT has been counted (42_pulse_classifier.md R143 to R145). -/
def State.transition (s : State) (l : Bool) : State :=
  match classify s.cfg s.pcnt.toNat with
  | .noise => s
  | .single => (s.rawPush l).acceptLevel l
  | .double => ((s.rawPush l).rawPush l).acceptLevel l
  | .idle => s.idleTerminate.acceptLevel l

/-- RX_TICK L (42_pulse_classifier.md R151). -/
def execRxTick (l : Bool) (s : State) : Result :=
  .next (if l = s.plvl then s.countTick else s.countTick.transition l)

/-- RX_APPEND L (42_pulse_classifier.md R152). -/
def execRxAppend (l : Bool) (s : State) : Result := .next (s.rawPush l)

/-- RX_CLEAR (42_pulse_classifier.md R153). -/
def execRxClear (s : State) : Result := .next s.rawClear

end Sys2Proof.Machine
end

