-- ==== Sys2Proof/Machine/System.lean ====
section
/-! DEFINITION. The system commands NOP, STAT_CLR and SOFT_RESET (45_system.md). -/

namespace Sys2Proof.Machine

/-- NOP: no state changes (45_system.md R240). -/
def execNop (s : State) : Result := .next s

/-- STAT_CLR (45_system.md R241). -/
def execStatClr (s : State) : Result := .next s.clearSticky

/-- SOFT_RESET (45_system.md R242). -/
def execSoftReset (s : State) : Result := .next s.resetState

end Sys2Proof.Machine
end

