-- ==== Sys2Proof/Machine/Dispatch.lean ====
section
/-! DEFINITION. What each command does: one arm per command, one direct call of its meaning. -/

namespace Sys2Proof.Machine

def exec (i : Instr) (s : State) : Host.Outcome State Fault Refusal :=
  match i with
  | .nop => Sys2Proof.Machine.execNop s
  | .crcInit => Sys2Proof.Machine.execCrcInit s
  | .crcUpd b => Sys2Proof.Machine.execCrcUpd b s
  | .manEnc b => Sys2Proof.Machine.execManEnc b s
  | .manDec w => Sys2Proof.Machine.execManDec w s
  | .rxTick l => Sys2Proof.Machine.execRxTick l s
  | .rxAppend l => Sys2Proof.Machine.execRxAppend l s
  | .rxClear => Sys2Proof.Machine.execRxClear s
  | .syncScan => Sys2Proof.Machine.execSyncScan s
  | .rxDecode => Sys2Proof.Machine.execRxDecode s
  | .txBegin => Sys2Proof.Machine.execTxBegin s
  | .txPush b => Sys2Proof.Machine.execTxPush b s
  | .txBuild => Sys2Proof.Machine.execTxBuild s
  | .txStep => Sys2Proof.Machine.execTxStep s
  | .statClr => Sys2Proof.Machine.execStatClr s
  | .softReset => Sys2Proof.Machine.execSoftReset s

end Sys2Proof.Machine
end

