-- ==== Sys2Proof/Machine/CommandPort.lean ====
section
/-! DEFINITION. Taking the next input: a word from the CMD port or a pulse of RST (10_state.md R20;
20_memory.md R72). -/

namespace Sys2Proof.Machine

/-- The oldest input not yet taken, and the state with it taken. -/
def fetch (s : State) : Option (Input × State) :=
  match s.inputs with
  | [] => none
  | x :: rest => some (x, { s with inputs := rest })

/-- What one input does: a legal word runs its command, an illegal word sets CMD_ERR and nothing
else (30_encoding.md R84, R85), an RST pulse resets (70_reset_and_hazards.md R290). -/
def takeInput (x : Input) (s : State) : Result :=
  match x with
  | .rst => .next s.resetState
  | .cmd w =>
    match decode w with
    | .ok i => exec i s
    | .error _ => .next s.commandError

/-- The word put in front of the inputs not yet taken, so that it is the next one taken. -/
def putWord (w : Word) (s : State) : State := { s with inputs := .cmd w :: s.inputs }

end Sys2Proof.Machine
end

