-- ==== Sys2Proof/WellFormed.lean ====
section
/-! DEFINITION. What is well formed: a configuration (00_scope.md R10) and an assembly line
(30_encoding.md R88). A command is well formed by its type: each operand of `Instr` has exactly
its format's range. -/

namespace Sys2Proof

/-- The constraints of 00_scope.md R10 on the parameters. PCNT_MAX fits 8 bits by its type. -/
abbrev Config.WellFormed (c : Config) : Prop :=
  512 ≤ c.rawCap ∧ 32 ≤ c.decCap ∧
  c.rawCap ≤ 0x8000 ∧ c.decCap ≤ 0x1000 ∧ c.txCap ≤ 0x1000 - 6 ∧
  1 ≤ c.tNoise ∧ c.tNoise ≤ c.t1Lo ∧ c.t1Lo ≤ c.t1Hi ∧ c.t1Hi < c.t2Lo ∧
  c.t2Lo ≤ c.t2Hi ∧ c.t2Hi < c.pcntMax.toNat ∧
  c.txCap + c.lenBias ≤ 255

/-- One command of assembly (30_encoding.md R88): a mnemonic, and a number where the format has an
operand. -/
structure AsmLine where
  /-- The mnemonic. -/
  mnemonic : Mnemonic
  /-- The operand, as the number written. -/
  operand : Option Nat
deriving DecidableEq, Repr

/-- The operand fits the format: 0 to 1 for F1, 0 to 255 for F8, 0 to 65535 for F16, and none for
F0 (30_encoding.md R88). -/
def Format.fits : Format → Option Nat → Bool
  | .f0, none => true
  | .f1, some n => decide (n ≤ 1)
  | .f8, some n => decide (n ≤ 255)
  | .f16, some n => decide (n ≤ 65535)
  | .f0, some _ => false
  | .f1, none => false
  | .f8, none => false
  | .f16, none => false

/-- A line an assembler may accept (30_encoding.md R88). -/
def AsmLine.wellFormed (l : AsmLine) : Bool := l.mnemonic.format.fits l.operand

end Sys2Proof
end

