-- ==== Sys2Proof/Machine/Step.lean ====
section
/-! DEFINITION. One step: the next input, whole (00_scope.md R15). No time is counted (log 17, DEDUCED). -/

namespace Sys2Proof.Machine

/-- One step of the machine. A configuration that breaks 00_scope.md R10 is refused before any
command (60_exceptions.md R276). With no input waiting, the block holds its state
(60_exceptions.md R275; log 1, DESIGN CHOICE). -/
def step (s : State) : Host.Outcome State Fault Refusal :=
  if s.cfg.WellFormed then
    match fetch s with
    | none => .next s
    | some (x, t) => takeInput x t
  else .refused .badConfig

/-- The state with the command word whose bits are `w` written to CMD as the next input. Every
command is one 32-bit word (30_encoding.md R80; log 10, DESIGN CHOICE; log 14, DEDUCED). -/
def State.withFetchWord (s : State) (nbits w : Nat) : State :=
  putWord (BitVec.ofNat 32 (w % 2 ^ nbits)) s

end Sys2Proof.Machine
end

