-- ==== Sys2Proof/Machine/Assembler.lean ====
section
/-! DEFINITION. The assembler of 30_encoding.md R88 and the pseudo-instructions of R89. It belongs
to the host's side: the machine only ever sees the words. The layout of a line beyond R88's words
(blanks, commas, capitals) is the model's choice (log 16, DESIGN CHOICE). -/

namespace Sys2Proof

/-- The command of a line; an operand that does not fit is rejected, not truncated
(30_encoding.md R88). -/
def AsmLine.assemble (l : AsmLine) : Option Instr :=
  if l.wellFormed then some (l.mnemonic.build (BitVec.ofNat 16 (l.operand.getD 0))) else none

/-- The pseudo-instructions (30_encoding.md R89). A list `b0 … bk` is given as its first element
and the rest, since it is never empty. -/
inductive Pseudo
  /-- CRC.SEQ b0, …, bk. -/
  | crcSeq (b0 : Nat) (bs : List Nat)
  /-- RX.TICKS l, n. -/
  | rxTicks (l n : Nat)
  /-- RX.LINE d, l0 … lm. -/
  | rxLine (d l0 : Nat) (ls : List Nat)
  /-- RX.BITS r0 … rm. -/
  | rxBits (r0 : Nat) (rs : List Nat)
  /-- TX.FRAME b0, …, bk. -/
  | txFrame (b0 : Nat) (bs : List Nat)
  /-- TX.STEPS n. -/
  | txSteps (n : Nat)
deriving DecidableEq, Repr

/-- The lines a pseudo-instruction stands for, in order (30_encoding.md R89). -/
def Pseudo.expand : Pseudo → List AsmLine
  | .crcSeq b0 bs => ⟨.crcInit, none⟩ :: (b0 :: bs).map fun b => ⟨.crcUpd, some b⟩
  | .rxTicks l n => List.replicate n ⟨.rxTick, some l⟩
  | .rxLine d l0 ls => (l0 :: ls).flatMap fun l => List.replicate d ⟨.rxTick, some l⟩
  | .rxBits r0 rs => (r0 :: rs).map fun r => ⟨.rxAppend, some r⟩
  | .txFrame b0 bs =>
    ⟨.txBegin, none⟩ :: ((b0 :: bs).map fun b => ⟨.txPush, some b⟩) ++ [⟨.txBuild, none⟩]
  | .txSteps n => List.replicate n ⟨.txStep, none⟩

/-- A mnemonic as it is spelled (30_encoding.md R83). -/
def Mnemonic.spelling : Mnemonic → List Char
  | .nop => ['N', 'O', 'P']
  | .crcInit => ['C', 'R', 'C', '_', 'I', 'N', 'I', 'T']
  | .crcUpd => ['C', 'R', 'C', '_', 'U', 'P', 'D']
  | .manEnc => ['M', 'A', 'N', '_', 'E', 'N', 'C']
  | .manDec => ['M', 'A', 'N', '_', 'D', 'E', 'C']
  | .rxTick => ['R', 'X', '_', 'T', 'I', 'C', 'K']
  | .rxAppend => ['R', 'X', '_', 'A', 'P', 'P', 'E', 'N', 'D']
  | .rxClear => ['R', 'X', '_', 'C', 'L', 'E', 'A', 'R']
  | .syncScan => ['S', 'Y', 'N', 'C', '_', 'S', 'C', 'A', 'N']
  | .rxDecode => ['R', 'X', '_', 'D', 'E', 'C', 'O', 'D', 'E']
  | .txBegin => ['T', 'X', '_', 'B', 'E', 'G', 'I', 'N']
  | .txPush => ['T', 'X', '_', 'P', 'U', 'S', 'H']
  | .txBuild => ['T', 'X', '_', 'B', 'U', 'I', 'L', 'D']
  | .txStep => ['T', 'X', '_', 'S', 'T', 'E', 'P']
  | .statClr => ['S', 'T', 'A', 'T', '_', 'C', 'L', 'R']
  | .softReset => ['S', 'O', 'F', 'T', '_', 'R', 'E', 'S', 'E', 'T']

/-- The value of a digit in base 16, 16 for a character that is no digit. -/
def digitValue (c : Char) : Nat :=
  let n := c.toNat
  if 0x30 ≤ n ∧ n ≤ 0x39 then n - 0x30
  else if 0x41 ≤ n ∧ n ≤ 0x46 then n - 0x41 + 10
  else if 0x61 ≤ n ∧ n ≤ 0x66 then n - 0x61 + 10
  else 16

/-- The number a nonempty run of digits writes in `base`. -/
def parseDigits (base : Nat) (cs : List Char) : Option Nat :=
  if cs ≠ [] ∧ cs.all (fun c => decide (digitValue c < base)) then
    some (cs.foldl (fun n c => base * n + digitValue c) 0)
  else none

/-- A decimal or `0x` hexadecimal number (30_encoding.md R88). -/
def parseNumber : List Char → Option Nat
  | '0' :: 'x' :: cs => parseDigits 16 cs
  | cs => parseDigits 10 cs

/-- The part of a line before the comment that `;` starts (30_encoding.md R88). -/
def dropComment (cs : List Char) : List Char := cs.takeWhile (fun c => c != ';')

/-- The words of a line, which blanks, tabs and commas set apart (log 16, DESIGN CHOICE). -/
def lineWords (cs : List Char) : List (List Char) :=
  (cs.splitBy fun a b => isGap a == isGap b).filter fun w => !w.all isGap
where
  /-- A character between words. -/
  isGap (c : Char) : Bool := c == ' ' || c == '\t' || c == ','

/-- One line of assembly text as the commands it stands for: an empty line none, a command itself,
a pseudo-instruction its expansion. `none` where the assembler rejects the line
(30_encoding.md R88, R89). -/
def parseLine (cs : List Char) : Option (List AsmLine) :=
  match lineWords (dropComment cs) with
  | [] => some []
  | name :: operands =>
    match operands.mapM parseNumber with
    | none => none
    | some ns =>
      match Mnemonic.all.find? (fun m => m.spelling == name), ns with
      | some m, [] => some [⟨m, none⟩]
      | some m, [n] => some [⟨m, some n⟩]
      | some _, _ :: _ :: _ => none
      | none, ns => (parsePseudo name ns).map Pseudo.expand
where
  /-- The pseudo-instruction with this name and these operands. -/
  parsePseudo (name : List Char) (ns : List Nat) : Option Pseudo :=
    if name = ['C', 'R', 'C', '.', 'S', 'E', 'Q'] then
      match ns with
      | b0 :: bs => some (.crcSeq b0 bs)
      | [] => none
    else if name = ['R', 'X', '.', 'T', 'I', 'C', 'K', 'S'] then
      match ns with
      | [l, n] => some (.rxTicks l n)
      | _ => none
    else if name = ['R', 'X', '.', 'L', 'I', 'N', 'E'] then
      match ns with
      | d :: l0 :: ls => some (.rxLine d l0 ls)
      | _ => none
    else if name = ['R', 'X', '.', 'B', 'I', 'T', 'S'] then
      match ns with
      | r0 :: rs => some (.rxBits r0 rs)
      | [] => none
    else if name = ['T', 'X', '.', 'F', 'R', 'A', 'M', 'E'] then
      match ns with
      | b0 :: bs => some (.txFrame b0 bs)
      | [] => none
    else if name = ['T', 'X', '.', 'S', 'T', 'E', 'P', 'S'] then
      match ns with
      | [n] => some (.txSteps n)
      | _ => none
    else none

/-- The words of one line of assembly text, or `none` where it is rejected (30_encoding.md R88). -/
def assembleLine (cs : List Char) : Option (List Word) :=
  match parseLine cs with
  | none => none
  | some ls => (ls.mapM AsmLine.assemble).map fun is => is.map encode

end Sys2Proof
end

