-- ==== Sys2Proof/Machine/ReadPort.lean ====
section
/-! DEFINITION. The register read port (10_state.md R48). A read is no command and changes no state
(R49), so it is a function of the state (log 18, DEDUCED). -/

namespace Sys2Proof.Machine

/-- The scalar registers, at 0x0000 to 0x0010 (10_state.md R48). -/
def State.scalarRead (s : State) : Nat → Half
  | 0x0000 => s.status
  | 0x0001 => s.crc
  | 0x0002 => s.menc
  | 0x0003 => s.mdec.setWidth 16
  | 0x0004 => bitAt 16 s.plvl 8 ||| s.pcnt.setWidth 16
  | 0x0005 => countWord s.raw.length
  | 0x0006 => s.syncSr.setWidth 16
  | 0x0007 => s.dstart
  | 0x0008 => countWord s.dec.length
  | 0x0009 => s.rxcrcCalc
  | 0x000A => s.rxcrcRecv
  | 0x000B => s.plen
  | 0x000C => countWord s.txp.length
  | 0x000D => countWord s.fbuf.length
  | 0x000E => s.txbyte
  | 0x000F => s.txhalf.setWidth 16
  | 0x0010 => bitAt 16 s.txOut 0
  | _ => 0#16

/-- `MemRead(a, 1)`: the value RDATA returns for RADDR = `a` (10_state.md R48). -/
def State.readPort (s : State) (a : Half) : Half :=
  let n := a.toNat
  if n < 0x1000 then s.scalarRead n
  else if n < 0x2000 then (byteAt s.dec (n - 0x1000)).setWidth 16
  else if n < 0x3000 then (byteAt s.txp (n - 0x2000)).setWidth 16
  else if n < 0x4000 then (byteAt s.fbuf (n - 0x3000)).setWidth 16
  else if n < 0x8000 then 0#16
  else bitAt 16 (rawAt s.raw (n - 0x8000)) 0

end Sys2Proof.Machine
end

