-- ==== Sys2Proof/Safety.lean ====
section
/-! DEFINITION. What claims about the machine are stated in: the invariant of 10_state.md R53, runs
(70_reset_and_hazards.md R302) and the interleavings of the two command sources
(20_memory.md R73; log 2, DESIGN CHOICE). -/

namespace Sys2Proof.Machine

/-- The invariant of 10_state.md R53 (TXHALF <= 15 holds by its type), for a configuration that meets
00_scope.md R10, with the two facts that an overflow bit is set only on a full buffer
(42_pulse_classifier.md R146, R148; 44_packet_framer.md R194). -/
abbrev State.Inv (s : State) : Prop :=
  s.cfg.WellFormed ∧
  s.raw.length ≤ s.cfg.rawCap ∧
  s.dec.length ≤ s.cfg.decCap ∧
  s.txp.length ≤ s.cfg.txCap ∧
  s.fbuf.length ≤ s.cfg.fbCap ∧
  (s.fbuf.length = 0 ∨ 6 ≤ s.fbuf.length) ∧
  s.txbyte.toNat ≤ s.fbuf.length ∧
  (s.txBusy = true → s.txbyte.toNat < s.fbuf.length) ∧
  (s.txBusy = false → s.txhalf = 0#4 ∧ (s.txbyte.toNat = s.fbuf.length ∨ s.txbyte = 0#16)) ∧
  s.pcnt.toNat ≤ s.cfg.pcntMax.toNat ∧
  s.recValid = (s.crcOk && s.lenOk) ∧
  s.dstart.toNat ≤ s.cfg.rawCap ∧
  (s.rawOvf = true → s.raw.length = s.cfg.rawCap) ∧
  (s.txOvf = true → s.txp.length = s.cfg.txCap)

/-- A sequence of commands run in order from `s`, each whole (00_scope.md R15). -/
def runCommands : List Instr → State → Result
  | [], s => .next s
  | i :: rest, s =>
    match exec i s with
    | .next t => runCommands rest t
    | .fault r => .fault r
    | .refused r => .refused r

/-- `zs` is an interleaving of `xs` and `ys` that keeps each one's own order (20_memory.md R73). -/
inductive Interleaving {α : Type} : List α → List α → List α → Prop
  /-- Both sequences are used up. -/
  | done : Interleaving [] [] []
  /-- The next element comes from the first sequence. -/
  | left {x : α} {xs ys zs : List α} : Interleaving xs ys zs → Interleaving (x :: xs) ys (x :: zs)
  /-- The next element comes from the second sequence. -/
  | right {y : α} {xs ys zs : List α} : Interleaving xs ys zs → Interleaving xs (y :: ys) (y :: zs)

/-- What the tick source writes to CMD for the levels it samples (60_exceptions.md R267). -/
def tickInputs (levels : List Bool) : List Input := levels.map fun l => .cmd (encode (.rxTick l))

/-- The run of a sequence of inputs from `s`: as many steps as there are inputs
(70_reset_and_hazards.md R302). -/
def runInputs (xs : List Input) (s : State) : Result :=
  Sys2Proof.core.run xs.length { s with inputs := xs }

/-- A claim about a host program holds: it holds at the end of the run of every interleaving of
the host's inputs with the tick source's (20_memory.md R73). -/
def HoldsForEveryInterleaving (P : State → Prop) (host : List Input) (levels : List Bool)
    (s : State) : Prop :=
  ∀ zs, Interleaving host (tickInputs levels) zs → ∃ t, runInputs zs s = .next t ∧ P t

/-- The commands 70_reset_and_hazards.md R297 lets a host interleave with ticks freely. -/
def interleavesFreely : Instr → Bool
  | .crcInit | .crcUpd _ | .manEnc _ | .manDec _ | .txBegin | .txPush _ | .txBuild | .txStep => true
  | .nop | .rxTick _ | .rxAppend _ | .rxClear | .syncScan | .rxDecode | .statClr | .softReset => false

end Sys2Proof.Machine
end

