-- ==== Sys2Proof/Certificates/Slice0/Obligations.lean ====
section
/-! DEFINITION. The statements about RF433-CORE, from the numbered rules of spec/. A few helpers
write the rules' own tables and terms out, apart from the definitions the machine uses. -/

open Sys2Proof Sys2Proof.Machine

namespace Sys2Proof.Terms

/-- The (mask, match) pairs of 30_encoding.md R83, as spec/opcode_table.json gives them. -/
def tableRow : Mnemonic → Word × Word
  | .nop => (0xFFFFFFFF#32, 0x00000000#32)
  | .crcInit => (0xFFFFFFFF#32, 0x01000000#32)
  | .crcUpd => (0xFFFFFF00#32, 0x02000000#32)
  | .manEnc => (0xFFFFFF00#32, 0x10000000#32)
  | .manDec => (0xFFFF0000#32, 0x11000000#32)
  | .rxTick => (0xFFFFFFFE#32, 0x20000000#32)
  | .rxAppend => (0xFFFFFFFE#32, 0x21000000#32)
  | .rxClear => (0xFFFFFFFF#32, 0x22000000#32)
  | .syncScan => (0xFFFFFFFF#32, 0x23000000#32)
  | .rxDecode => (0xFFFFFFFF#32, 0x24000000#32)
  | .txBegin => (0xFFFFFFFF#32, 0x30000000#32)
  | .txPush => (0xFFFFFF00#32, 0x31000000#32)
  | .txBuild => (0xFFFFFFFF#32, 0x32000000#32)
  | .txStep => (0xFFFFFFFF#32, 0x33000000#32)
  | .statClr => (0xFFFFFFFF#32, 0x70000000#32)
  | .softReset => (0xFFFFFFFF#32, 0x7F000000#32)

/-- The reset table of 10_state.md R54 over `s`: what reset leaves alone is taken from `s`. -/
def resetTable (s : State) : State :=
  { s with
    crc := s.cfg.crcSeed, menc := 0#16, mdec := 0#8, plvl := false, pcnt := 0#8, raw := []
    syncSr := 0#8, dstart := 0#16, dec := [], rxcrcCalc := 0#16, rxcrcRecv := 0#16, plen := 0#16
    txp := [], fbuf := [], txbyte := 0#16, txhalf := 0#4, txOut := s.cfg.idleLevel
    syncFound := false, crcOk := false, lenOk := false, recValid := false, rawOvf := false
    decOvf := false, txOvf := false, txBusy := false, cmdErr := false, rxDone := false }

/-- The duration a tick sees: PCNT after its saturating increment (42_pulse_classifier.md R142). -/
def tickCount (s : State) : Nat := min (s.pcnt.toNat + 1) s.cfg.pcntMax.toNat

/-- SYNC_SR after the first `k` raw bits of a scan (43_frame_sync.md R171). -/
def syncSrAfter (s : State) (k : Nat) : Byte :=
  (s.raw.take k).foldl (fun sr r => (sr <<< 1) ||| (if r then 0#8 else 1#8)) s.cfg.syncSrInit

/-- Verification is equality (40_crc.md R105). -/
def crcVerifies (cfg : Config) (d : List Byte) (received : Half) : Prop :=
  crc16 cfg cfg.crcSeed d = received

/-- `s` with the transmit side of `u` (60_exceptions.md R273). -/
def withTransmitOf (s u : State) : State :=
  { s with txp := u.txp, txOvf := u.txOvf, fbuf := u.fbuf, txbyte := u.txbyte, txhalf := u.txhalf
           txBusy := u.txBusy, txOut := u.txOut }

/-- `s` with the receive side of `u` (60_exceptions.md R273). -/
def withReceiveOf (s u : State) : State :=
  { s with plvl := u.plvl, pcnt := u.pcnt, raw := u.raw, rawOvf := u.rawOvf, syncSr := u.syncSr
           dstart := u.dstart, syncFound := u.syncFound, dec := u.dec, decOvf := u.decOvf
           rxcrcCalc := u.rxcrcCalc, rxcrcRecv := u.rxcrcRecv, plen := u.plen, crcOk := u.crcOk
           lenOk := u.lenOk, recValid := u.recValid, rxDone := u.rxDone }

/-- The whole bytes after DSTART once `s` has been scanned (44_packet_framer.md R211). -/
def bytesAfterScan (s : State) : Nat := (s.raw.length - s.syncScan.dstart.toNat) / 16

/-- `w` is the word of `i`, and every other word with its OPC is illegal: what the rule of a command
without an operand says of its encoding (30_encoding.md R85). -/
def OnlyWordOf (w : Word) (i : Instr) : Prop :=
  decode w = .ok i ∧ ∀ v : Word, v >>> 24 = w >>> 24 → v ≠ w → ∃ e, decode v = .error e

/-- The parameters of the default configuration but for CRC_REFLECTED, LEN_BIAS and MAN_POLICY
(00_scope.md R9). -/
def defaultBut (reflected : Bool) (bias : Nat) (policy : ManPolicy) : Config :=
  { Config.default with crcReflected := reflected, lenBias := bias, manPolicy := policy }

/-- The words on CMD of a sequence of commands. -/
def commandInputs (is : List Instr) : List Input := is.map fun i => .cmd (encode i)

/-- The tick source's commands for a line that holds each level for `h` samples
(70_reset_and_hazards.md R300). -/
def lineTicks (h : Nat) (line : List Bool) : List Instr :=
  line.flatMap fun l => List.replicate h (.rxTick l)

end Sys2Proof.Terms

open Sys2Proof.Terms

/-! ### Encoding -/

/-- Decoding the word of any command gives the command back (30_encoding.md R80 to R84). -/
def Obligations.DecodeEncodeRoundTrip : Prop := ∀ i : Instr, decode (encode i) = .ok i

/-- A legal word is the word of the command it decodes to: each word has one meaning, and no bit of
it is ignored (30_encoding.md R84). -/
def Obligations.EncodeDecodeRoundTrip : Prop := ∀ (w : Word) (i : Instr), decode w = .ok i → encode i = w

/-- A word decodes to a command of a row exactly when it matches the row's mask and match
(30_encoding.md R83). -/
def Obligations.LegalWordsMatchTheirTableRow : Prop :=
  ∀ (m : Mnemonic) (w : Word),
    (∃ i, decode w = .ok i ∧ i.mnemonic = m) ↔ w &&& (tableRow m).1 = (tableRow m).2

/-- The example words of 30_encoding.md R90. -/
def Obligations.ExampleWordsDecode : Prop :=
  decode 0x00000000#32 = .ok .nop ∧ decode 0x01000000#32 = .ok .crcInit ∧
  decode 0x02000031#32 = .ok (.crcUpd 0x31#8) ∧ decode 0x10000003#32 = .ok (.manEnc 0x03#8) ∧
  decode 0x11005A55#32 = .ok (.manDec 0x5A55#16) ∧ decode 0x20000001#32 = .ok (.rxTick true) ∧
  decode 0x21000000#32 = .ok (.rxAppend false) ∧ decode 0x22000000#32 = .ok .rxClear ∧
  decode 0x23000000#32 = .ok .syncScan ∧ decode 0x24000000#32 = .ok .rxDecode ∧
  decode 0x30000000#32 = .ok .txBegin ∧ decode 0x310000DF#32 = .ok (.txPush 0xDF#8) ∧
  decode 0x32000000#32 = .ok .txBuild ∧ decode 0x33000000#32 = .ok .txStep ∧
  decode 0x70000000#32 = .ok .statClr ∧ decode 0x7F000000#32 = .ok .softReset ∧
  decode 0x02000131#32 = .error .mustBeZeroBits ∧ decode 0x20000002#32 = .error .mustBeZeroBits ∧
  decode 0x00010000#32 = .error .reservedField ∧ decode 0x05000000#32 = .error .unassignedOpc

/-- The unassigned opcodes of 30_encoding.md R87, and no others, are illegal as opcodes. -/
def Obligations.UnassignedOpcodesAreIllegal : Prop :=
  ∀ w : Word,
    decode w = .error .unassignedOpc ↔
      let o := (w >>> 24).toNat
      (0x03 ≤ o ∧ o ≤ 0x0F) ∨ (0x12 ≤ o ∧ o ≤ 0x1F) ∨ (0x25 ≤ o ∧ o ≤ 0x2F) ∨
      (0x34 ≤ o ∧ o ≤ 0x6F) ∨ (0x71 ≤ o ∧ o ≤ 0x7E) ∨ (0x80 ≤ o ∧ o ≤ 0xFF)

/-- An assembler rejects exactly the operands that do not fit, and the word of a line is
`(OPC << 24) or operand` (30_encoding.md R88). -/
def Obligations.AssemblerRejectsOrEncodesTheOperand : Prop :=
  ∀ (m : Mnemonic) (n : Nat),
    (AsmLine.assemble ⟨m, some n⟩ = none ↔
      match m.format with
      | .f0 => True
      | .f1 => 1 < n
      | .f8 => 255 < n
      | .f16 => 65535 < n) ∧
    (AsmLine.assemble ⟨m, none⟩ = none ↔ m.format ≠ .f0) ∧
    (∀ i, AsmLine.assemble ⟨m, some n⟩ = some i →
      i.mnemonic = m ∧ encode i = (m.opc.setWidth 32 <<< 24) ||| BitVec.ofNat 32 n) ∧
    (∀ i, AsmLine.assemble ⟨m, none⟩ = some i →
      i.mnemonic = m ∧ encode i = m.opc.setWidth 32 <<< 24)

/-! ### The step -/

/-- The oldest word on CMD, when it decodes, is run whole: the step is `exec` of the decoded command
on the state with that word taken (00_scope.md R15; 30_encoding.md R84). The list of waiting inputs is
the model's (log 1, DESIGN CHOICE). -/
def Obligations.StepRunsTheDecodedCommand : Prop :=
  ∀ (s : State) (w : Word) (rest : List Input) (i : Instr),
    s.cfg.WellFormed → s.inputs = .cmd w :: rest → decode w = .ok i →
      step s = exec i { s with inputs := rest }

/-- The word of any command, placed as the next input, is run by the very next step. That a word is
placed at the head of the waiting inputs is the model's choice (log 1, log 10, DESIGN CHOICE). -/
def Obligations.PlacedCommandRunsNext : Prop :=
  ∀ (s : State) (i : Instr), s.cfg.WellFormed →
    step (s.withFetchWord 32 (encode i).toNat) = exec i s

/-- An illegal word sets CMD_ERR and writes no other state (30_encoding.md R85). -/
def Obligations.IllegalWordSetsOnlyCmdErr : Prop :=
  ∀ (s : State) (w : Word) (rest : List Input) (e : Illegal),
    s.cfg.WellFormed → s.inputs = .cmd w :: rest → decode w = .error e →
      step s = .next { s with inputs := rest, cmdErr := true }

/-- An RST pulse leaves the reset table of 10_state.md R54, and SOFT_RESET leaves the same
(70_reset_and_hazards.md R290, 45_system.md R242). The model's own: RST pulses wait in the list of
inputs (log 1, DESIGN CHOICE), CRC is CRC_SEED in every configuration (log 9, DEDUCED), and the
parameters, the waiting inputs and the count of draws stay (log 11, DEDUCED). -/
def Obligations.BothResetsLeaveTheResetTable : Prop :=
  (∀ (s : State) (rest : List Input), s.cfg.WellFormed → s.inputs = .rst :: rest →
    step s = .next (resetTable { s with inputs := rest })) ∧
  (∀ s : State, exec .softReset s = .next (resetTable s)) ∧
  State.reset.crc = 0xFFFF#16 ∧ State.reset.txOut = false ∧
  State.reset = { resetTable State.reset with trace := [] }

/-- With no input waiting the block holds its state (60_exceptions.md R275; that a step then
answers the same state is the model's choice, log 1, DESIGN CHOICE). -/
def Obligations.WaitingBlockHoldsItsState : Prop :=
  ∀ s : State, s.cfg.WellFormed → s.inputs = [] → step s = .next s

/-- A step is refused exactly when the configuration breaks a constraint of 00_scope.md R10, and the
defaults break none. -/
def Obligations.OnlyBrokenConfigurationsAreRefused : Prop :=
  Config.default.WellFormed ∧
  ∀ s : State, step s = .refused .badConfig ↔
    ¬ (s.cfg.rawCap ≥ 512 ∧ s.cfg.decCap ≥ 32 ∧ s.cfg.rawCap ≤ 0x8000 ∧ s.cfg.decCap ≤ 0x1000 ∧
       s.cfg.txCap ≤ 0x1000 - 6 ∧ 1 ≤ s.cfg.tNoise ∧ s.cfg.tNoise ≤ s.cfg.t1Lo ∧
       s.cfg.t1Lo ≤ s.cfg.t1Hi ∧ s.cfg.t1Hi < s.cfg.t2Lo ∧ s.cfg.t2Lo ≤ s.cfg.t2Hi ∧
       s.cfg.t2Hi < s.cfg.pcntMax.toNat ∧ s.cfg.txCap + s.cfg.lenBias ≤ 255)

/-- Every word in every state has a defined next state: no fault, nothing stuck
(60_exceptions.md R276). -/
def Obligations.EveryInputHasANextState : Prop :=
  ∀ s : State, s.cfg.WellFormed → ∃ t, step s = .next t

/-! ### Invariants and whole-machine rules -/

/-- The invariant holds after reset, under every configuration that meets R10 (10_state.md R53). -/
def Obligations.ResetMeetsTheInvariant : Prop :=
  ∀ c : Config, c.WellFormed → (State.resetFor c).Inv

/-- Every step keeps the invariant of 10_state.md R53. -/
def Obligations.StepKeepsTheInvariant : Prop :=
  ∀ s t : State, s.Inv → step s = .next t → t.Inv

/-- No step removes an event, or changes a parameter (10_state.md R46, R54; 00_scope.md R9, R14).
That the parameters are a field of the state is the model's choice (log 3, DESIGN CHOICE), and that
resets keep them its reading (log 11, DEDUCED). -/
def Obligations.TraceOnlyGrowsAndParametersStay : Prop :=
  ∀ s t : State, step s = .next t → t.cfg = s.cfg ∧ ∃ es, t.trace = s.trace ++ es

/-- Each register is written by the commands its entry in 10_state.md names, and by no other
(R22 to R43, the trace by R46, and reset by R54). The last clause, that no command takes a waiting
input, is about the model's own list (log 1, DESIGN CHOICE), and for SOFT_RESET rests on log 11
(DEDUCED): no rule gives it. -/
def Obligations.OnlyNamedCommandsWriteEachRegister : Prop :=
  ∀ (i : Instr) (s t : State), exec i s = .next t →
    (t.crc ≠ s.crc → i.mnemonic ∈ [.crcInit, .crcUpd, .softReset]) ∧
    (t.menc ≠ s.menc → i.mnemonic ∈ [.manEnc, .softReset]) ∧
    (t.mdec ≠ s.mdec → i.mnemonic ∈ [.manDec, .softReset]) ∧
    (t.plvl ≠ s.plvl → i.mnemonic ∈ [.rxTick, .softReset]) ∧
    (t.pcnt ≠ s.pcnt → i.mnemonic ∈ [.rxTick, .softReset]) ∧
    (t.raw ≠ s.raw → i.mnemonic ∈ [.rxTick, .rxAppend, .rxClear, .rxDecode, .softReset]) ∧
    (t.rawOvf ≠ s.rawOvf → i.mnemonic ∈ [.rxTick, .rxAppend, .rxClear, .rxDecode, .softReset]) ∧
    (t.syncSr ≠ s.syncSr ∨ t.dstart ≠ s.dstart ∨ t.syncFound ≠ s.syncFound →
      i.mnemonic ∈ [.rxTick, .syncScan, .rxDecode, .softReset]) ∧
    (t.dec ≠ s.dec ∨ t.decOvf ≠ s.decOvf ∨ t.rxcrcCalc ≠ s.rxcrcCalc ∨
      t.rxcrcRecv ≠ s.rxcrcRecv ∨ t.plen ≠ s.plen ∨ t.crcOk ≠ s.crcOk ∨ t.lenOk ≠ s.lenOk ∨
      t.recValid ≠ s.recValid → i.mnemonic ∈ [.rxTick, .rxDecode, .softReset]) ∧
    (t.txp ≠ s.txp ∨ t.txOvf ≠ s.txOvf → i.mnemonic ∈ [.txBegin, .txPush, .softReset]) ∧
    (t.fbuf ≠ s.fbuf → i.mnemonic ∈ [.txBuild, .softReset]) ∧
    (t.txbyte ≠ s.txbyte ∨ t.txhalf ≠ s.txhalf ∨ t.txBusy ≠ s.txBusy →
      i.mnemonic ∈ [.txBuild, .txStep, .softReset]) ∧
    (t.txOut ≠ s.txOut → i.mnemonic ∈ [.txStep, .softReset]) ∧
    (t.trace ≠ s.trace → i.mnemonic ∈ [.rxTick, .rxDecode, .txPush]) ∧
    t.inputs = s.inputs

/-- The transmit and the receive path share no state but CMD_ERR and the trace
(60_exceptions.md R273): what a command of one side does is the same, and leaves the other side as it
was, whatever the other side's state. -/
def Obligations.TransmitAndReceiveShareNoState : Prop :=
  ∀ (i : Instr) (s t u : State), exec i s = .next t →
    (i.mnemonic ∈ [.rxTick, .rxAppend, .rxClear, .syncScan, .rxDecode] →
      exec i (withTransmitOf s u) = .next (withTransmitOf t u)) ∧
    (i.mnemonic ∈ [.txBegin, .txPush, .txBuild, .txStep] →
      exec i (withReceiveOf s u) = .next (withReceiveOf t u))

/-- CMD_ERR and RX_DONE are sticky: only STAT_CLR and SOFT_RESET clear them; CMD_ERR is set by no
legal command but a refused TX_BUILD, RX_DONE by no command but a run of the pipeline
(10_state.md R44; 30_encoding.md R86). -/
def Obligations.StickyBitsAreClearedOnlyByName : Prop :=
  ∀ (i : Instr) (s t : State), exec i s = .next t →
    (s.cmdErr = true → t.cmdErr = false → i = .statClr ∨ i = .softReset) ∧
    (s.rxDone = true → t.rxDone = false → i = .statClr ∨ i = .softReset) ∧
    (s.cmdErr = false → t.cmdErr = true →
      i = .txBuild ∧ (s.txBusy = true ∨ s.txOvf = true)) ∧
    (s.rxDone = false → t.rxDone = true → i.mnemonic ∈ [.rxTick, .rxDecode])

/-- The bits of STATUS (10_state.md R45). -/
def Obligations.StatusWordLayout : Prop :=
  ∀ s : State,
    s.status.getLsbD 0 = s.syncFound ∧ s.status.getLsbD 1 = s.crcOk ∧
    s.status.getLsbD 2 = s.lenOk ∧ s.status.getLsbD 3 = s.recValid ∧
    s.status.getLsbD 4 = s.rawOvf ∧ s.status.getLsbD 5 = s.decOvf ∧
    s.status.getLsbD 6 = s.txOvf ∧ s.status.getLsbD 7 = s.txBusy ∧
    s.status.getLsbD 8 = s.cmdErr ∧ s.status.getLsbD 9 = s.rxDone ∧
    ∀ k, 10 ≤ k → s.status.getLsbD k = false

/-- The read port's map (10_state.md R48). -/
def Obligations.ReadPortMap : Prop :=
  ∀ s : State,
    s.readPort 0x0000#16 = s.status ∧ s.readPort 0x0001#16 = s.crc ∧
    s.readPort 0x0002#16 = s.menc ∧ s.readPort 0x0003#16 = s.mdec.setWidth 16 ∧
    s.readPort 0x0004#16 = (if s.plvl then 0x0100#16 else 0#16) ||| s.pcnt.setWidth 16 ∧
    s.readPort 0x0005#16 = BitVec.ofNat 16 s.raw.length ∧
    s.readPort 0x0006#16 = s.syncSr.setWidth 16 ∧ s.readPort 0x0007#16 = s.dstart ∧
    s.readPort 0x0008#16 = BitVec.ofNat 16 s.dec.length ∧
    s.readPort 0x0009#16 = s.rxcrcCalc ∧ s.readPort 0x000A#16 = s.rxcrcRecv ∧
    s.readPort 0x000B#16 = s.plen ∧ s.readPort 0x000C#16 = BitVec.ofNat 16 s.txp.length ∧
    s.readPort 0x000D#16 = BitVec.ofNat 16 s.fbuf.length ∧
    s.readPort 0x000E#16 = s.txbyte ∧ s.readPort 0x000F#16 = s.txhalf.setWidth 16 ∧
    s.readPort 0x0010#16 = (if s.txOut then 1#16 else 0#16) ∧
    (∀ i, i < 0x1000 → s.readPort (BitVec.ofNat 16 (0x1000 + i)) =
      if h : i < s.dec.length then (s.dec[i]).setWidth 16 else 0#16) ∧
    (∀ i, i < 0x1000 → s.readPort (BitVec.ofNat 16 (0x2000 + i)) =
      if h : i < s.txp.length then (s.txp[i]).setWidth 16 else 0#16) ∧
    (∀ i, i < 0x1000 → s.readPort (BitVec.ofNat 16 (0x3000 + i)) =
      if h : i < s.fbuf.length then (s.fbuf[i]).setWidth 16 else 0#16) ∧
    (∀ i, i < 0x8000 → s.readPort (BitVec.ofNat 16 (0x8000 + i)) =
      if h : i < s.raw.length then (if s.raw[i] then 1#16 else 0#16) else 0#16) ∧
    (∀ a : Half, (0x0011 ≤ a.toNat ∧ a.toNat < 0x1000) ∨ (0x4000 ≤ a.toNat ∧ a.toNat < 0x8000) →
      s.readPort a = 0#16)

/-- The read port shows all state but the report trace (10_state.md R52): two states that meet the
invariant under one configuration and read alike everywhere differ at most in the trace and in the
model's own two fields, the waiting inputs (log 1, DESIGN CHOICE) and the count of draws (log 4,
DESIGN CHOICE). -/
def Obligations.ReadPortShowsAllState : Prop :=
  ∀ s t : State, s.Inv → t.Inv → s.cfg = t.cfg → (∀ a, s.readPort a = t.readPort a) →
    s = { t with trace := s.trace, inputs := s.inputs, draws := s.draws }

/-- The idempotent commands of 20_memory.md R69, none of which emits an event. -/
def Obligations.IdempotentCommands : Prop :=
  ∀ (i : Instr) (s : State), s.cfg.manPolicy = .firstSample →
    i.mnemonic ∈ [.nop, .crcInit, .manEnc, .manDec, .rxClear, .syncScan, .txBegin, .statClr,
      .softReset] →
    ∃ t, exec i s = .next t ∧ exec i t = .next t ∧ t.trace = s.trace

/-! ### System commands -/

/-- NOP changes nothing, and is the all-zero word alone (45_system.md R240). -/
def Obligations.NopChangesNothing : Prop :=
  (∀ s : State, exec .nop s = .next s) ∧ OnlyWordOf 0x00000000#32 .nop

/-- STAT_CLR clears the two sticky bits alone, and has one word (45_system.md R241). -/
def Obligations.StatClrClearsTheStickyBits : Prop :=
  (∀ s : State, exec .statClr s = .next { s with cmdErr := false, rxDone := false }) ∧
  OnlyWordOf 0x70000000#32 .statClr

/-! ### CRC unit -/

/-- CRC_INIT writes CRC_SEED, 0xFFFF by default, to CRC alone, and has one word
(40_crc.md R103). -/
def Obligations.CrcInitSeeds : Prop :=
  (∀ s : State, exec .crcInit s = .next { s with crc := s.cfg.crcSeed }) ∧
  Config.default.crcSeed = 0xFFFF#16 ∧ OnlyWordOf 0x01000000#32 .crcInit

/-- CRC_UPD runs `crc16_update` on CRC alone, in either form (40_crc.md R100, R104). -/
def Obligations.CrcUpdRunsTheUpdateLoop : Prop :=
  (∀ (s : State) (b : Byte), s.cfg.crcReflected = false →
    exec (.crcUpd b) s = .next { s with
      crc := (List.range 8).foldl
        (fun c _ => if c.getLsbD 15 = true then (c <<< 1) ^^^ s.cfg.crcPoly else c <<< 1)
        (s.crc ^^^ (b.setWidth 16 <<< 8)) }) ∧
  (∀ (s : State) (b : Byte), s.cfg.crcReflected = true → s.cfg.crcPoly = 0x1021#16 →
    exec (.crcUpd b) s = .next { s with
      crc := (List.range 8).foldl
        (fun c _ => if c.getLsbD 0 = true then (c >>> 1) ^^^ 0x8408#16 else c >>> 1)
        (s.crc ^^^ b.setWidth 16) })

/-- `crc16` folds the update over the bytes and applies the final XOR; the check values of
40_crc.md R101. -/
def Obligations.CrcSequenceFunction : Prop :=
  (∀ (cfg : Config) (seed : Half), crc16 cfg seed [] = seed ^^^ cfg.crcXorout) ∧
  (∀ (cfg : Config) (seed : Half) (s : List Byte) (b : Byte),
    crc16 cfg seed (s ++ [b]) =
      crcUpdate cfg (crc16 cfg seed s ^^^ cfg.crcXorout) b ^^^ cfg.crcXorout) ∧
  crc16 Config.default 0xFFFF#16 [] = 0xFFFF#16 ∧
  crc16 Config.default 0xFFFF#16
    [0x31#8, 0x32#8, 0x33#8, 0x34#8, 0x35#8, 0x36#8, 0x37#8, 0x38#8, 0x39#8] = 0x29B1#16

/-- Both forms of the update are bijections of the CRC for a fixed byte (40_crc.md R102). -/
def Obligations.CrcUpdateIsABijection : Prop :=
  (∀ (cfg : Config) (b : Byte), cfg.crcPoly = 0x1021#16 →
    Function.Bijective fun c => crcUpdate cfg c b) ∧
  crcUpdate Config.default 0#16 0#8 = 0#16 ∧ crcUpdate Config.default 0#16 1#8 = 0x1021#16

/-- A sequence verifies with its own CRC, and with any one bit of it or of the CRC flipped it does
not (40_crc.md R106). -/
def Obligations.CrcDetectsEverySingleBitFlip : Prop :=
  ∀ (cfg : Config) (d : List Byte), cfg.crcPoly = 0x1021#16 →
    crcVerifies cfg d (crc16 cfg cfg.crcSeed d) ∧
    (∀ i k, i < d.length → k < 8 →
      ¬ crcVerifies cfg (d.set i (byteAt d i ^^^ (1#8 <<< k))) (crc16 cfg cfg.crcSeed d)) ∧
    (∀ k, k < 16 → ¬ crcVerifies cfg d (crc16 cfg cfg.crcSeed d ^^^ (1#16 <<< k)))

/-! ### Manchester codec -/

/-- MAN_ENC writes MENC alone: data bit 1 is the line levels (low, high), 0 is (high, low), the first
level in bit 2i + 1 and the most significant data bit first on the line
(41_manchester.md R121, R120). -/
def Obligations.ManEncWritesTheLinePairs : Prop :=
  ∀ (b : Byte) (s : State), ∃ w : Half, exec (.manEnc b) s = .next { s with menc := w } ∧
    (∀ i, i < 8 → b.getLsbD i = true → w.getLsbD (2 * i + 1) = false ∧ w.getLsbD (2 * i) = true) ∧
    (∀ i, i < 8 → b.getLsbD i = false → w.getLsbD (2 * i + 1) = true ∧ w.getLsbD (2 * i) = false)

/-- MAN_DEC writes MDEC alone: a valid pair decodes to its first sample under either policy, an
invalid one does under FIRST_SAMPLE and to a free bit under DRAW (41_manchester.md R123, R124). The
clauses on the count of draws, which may change beside MDEC and does not under FIRST_SAMPLE, are about
the model's own field (log 4, DESIGN CHOICE). -/
def Obligations.ManDecDecodesThePairs : Prop :=
  ∀ (w : Half) (s : State), ∃ (v : Byte) (n : Nat),
    exec (.manDec w) s = .next { s with mdec := v, draws := n } ∧
    (∀ i, i < 8 → w.getLsbD (2 * i + 1) ≠ w.getLsbD (2 * i) →
      v.getLsbD i = w.getLsbD (2 * i + 1)) ∧
    (s.cfg.manPolicy = .firstSample →
      n = s.draws ∧ ∀ i, i < 8 → v.getLsbD i = w.getLsbD (2 * i + 1))

/-- The decoder undoes the encoder through the inversion, and gives the complement without it
(41_manchester.md R126), under either policy. -/
def Obligations.ManchesterPolarityRelation : Prop :=
  ∀ (policy : ManPolicy) (free b : Byte),
    manDec policy free (~~~ manEnc b) = b ∧ manDec policy free (manEnc b) = ~~~ b

/-- Decoding a byte from RAW is `man_dec` of the 16 raw bits, the first in bit 15
(41_manchester.md R125). -/
def Obligations.RawByteDecodesAsItsWord : Prop :=
  ∀ (policy : ManPolicy) (free : Byte) (raw : List Bool) (p : Nat) (w : Half),
    (∀ j, j < 16 → w.getLsbD (15 - j) = rawAt raw (p + j)) →
      manDecRaw policy free raw p = manDec policy free w

/-! ### Pulse classifier -/

/-- The bands of the default parameters (42_pulse_classifier.md R143). -/
def Obligations.ClassifierBands : Prop :=
  ∀ d : Nat, 1 ≤ d →
    (classify Config.default d = .noise ↔ d ≤ 4) ∧
    (classify Config.default d = .single ↔ 13 ≤ d ∧ d ≤ 17) ∧
    (classify Config.default d = .double ↔ 29 ≤ d ∧ d ≤ 35) ∧
    (classify Config.default d = .idle ↔
      (5 ≤ d ∧ d ≤ 12) ∨ (18 ≤ d ∧ d ≤ 28) ∨ 36 ≤ d)

/-- A tick at the stored level only counts, and so does a noise transition: the stored level stays
and the count goes on (42_pulse_classifier.md R145, R151). -/
def Obligations.HeldAndNoiseTicksOnlyCount : Prop :=
  ∀ (l : Bool) (s : State), (l = s.plvl ∨ tickCount s < s.cfg.tNoise) →
    exec (.rxTick l) s = .next { s with pcnt := BitVec.ofNat 8 (tickCount s) }

/-- A SINGLE pushes the new level once, dropping it at capacity, and is accepted
(42_pulse_classifier.md R143, R144, R146, R151). -/
def Obligations.SingleTickPushesOneBit : Prop :=
  ∀ (l : Bool) (s : State), s.cfg.WellFormed → l ≠ s.plvl →
    s.cfg.t1Lo ≤ tickCount s → tickCount s ≤ s.cfg.t1Hi →
    (s.raw.length < s.cfg.rawCap →
      exec (.rxTick l) s = .next { s with raw := s.raw ++ [l], pcnt := 0#8, plvl := l }) ∧
    (s.cfg.rawCap ≤ s.raw.length →
      exec (.rxTick l) s = .next { s with rawOvf := true, pcnt := 0#8, plvl := l })

/-- A DOUBLE pushes the new level twice; with room for one bit the second is dropped
(42_pulse_classifier.md R143, R144, R146, R151 corner case (b)). -/
def Obligations.DoubleTickPushesTwoBits : Prop :=
  ∀ (l : Bool) (s : State), s.cfg.WellFormed → l ≠ s.plvl →
    s.cfg.t2Lo ≤ tickCount s → tickCount s ≤ s.cfg.t2Hi →
    (s.raw.length + 2 ≤ s.cfg.rawCap →
      exec (.rxTick l) s = .next { s with raw := s.raw ++ [l, l], pcnt := 0#8, plvl := l }) ∧
    (s.raw.length + 1 = s.cfg.rawCap →
      exec (.rxTick l) s =
        .next { s with raw := s.raw ++ [l], rawOvf := true, pcnt := 0#8, plvl := l }) ∧
    (s.cfg.rawCap ≤ s.raw.length →
      exec (.rxTick l) s = .next { s with rawOvf := true, pcnt := 0#8, plvl := l })

/-- An IDLE pulse decodes the attempt when RAWN exceeds TRIG_MIN, as RX_DECODE does, clears RAW in
any case, and is accepted (42_pulse_classifier.md R144, R148, R151). In a configuration with
TRIG_MIN >= RAW_CAP the first clause also holds with RAW_OVF = 1: that RAW is then cleared without a
report is the model's reading of R148 (log 20, DEDUCED). -/
def Obligations.IdleTickTerminatesTheAttempt : Prop :=
  ∀ (l : Bool) (s : State), l ≠ s.plvl → s.cfg.tNoise ≤ tickCount s →
    ¬ (s.cfg.t1Lo ≤ tickCount s ∧ tickCount s ≤ s.cfg.t1Hi) →
    ¬ (s.cfg.t2Lo ≤ tickCount s ∧ tickCount s ≤ s.cfg.t2Hi) →
    (s.raw.length ≤ s.cfg.trigMin →
      exec (.rxTick l) s = .next { s with raw := [], rawOvf := false, pcnt := 0#8, plvl := l }) ∧
    (s.cfg.trigMin < s.raw.length →
      ∃ t, exec .rxDecode s = .next t ∧
        exec (.rxTick l) s = .next { t with pcnt := 0#8, plvl := l })

/-- A level held for N samples after its accepted transition is classified, by the tick that ends
it, with duration min(N, PCNT_MAX) (42_pulse_classifier.md R149). -/
def Obligations.HeldLevelIsClassifiedByItsLength : Prop :=
  ∀ (x : Bool) (s : State) (n : Nat), s.plvl = x → s.pcnt = 0#8 → 1 ≤ n →
    runCommands (List.replicate (n - 1) (.rxTick x)) s =
      .next { s with pcnt := BitVec.ofNat 8 (min (n - 1) s.cfg.pcntMax.toNat) } ∧
    runCommands (List.replicate (n - 1) (.rxTick x) ++ [.rxTick (!x)]) s =
      .next ({ s with pcnt := BitVec.ofNat 8 (min n s.cfg.pcntMax.toNat) }.transition (!x))

/-- RX_APPEND appends one raw bit and never overruns (42_pulse_classifier.md R146, R152). -/
def Obligations.RxAppendNeverOverruns : Prop :=
  ∀ (l : Bool) (s : State),
    (s.raw.length < s.cfg.rawCap → exec (.rxAppend l) s = .next { s with raw := s.raw ++ [l] }) ∧
    (s.cfg.rawCap ≤ s.raw.length → exec (.rxAppend l) s = .next { s with rawOvf := true })

/-- RX_CLEAR empties RAW and clears RAW_OVF alone, and has one word
(42_pulse_classifier.md R147, R153). -/
def Obligations.RxClearEndsTheAttempt : Prop :=
  (∀ s : State, exec .rxClear s = .next { s with raw := [], rawOvf := false }) ∧
  OnlyWordOf 0x22000000#32 .rxClear

/-! ### Frame synchronizer -/

/-- SYNC_SCAN honours the first index at which the shift register equals SYNC_PATTERN; without one,
DSTART and SYNC_FOUND are 0 (43_frame_sync.md R171 to R173). It writes nothing else. -/
def Obligations.SyncScanTakesTheFirstMatch : Prop :=
  ∀ s : State,
    (∀ i, i < s.raw.length → syncSrAfter s (i + 1) = s.cfg.syncPattern →
      (∀ j, j < i → syncSrAfter s (j + 1) ≠ s.cfg.syncPattern) →
      exec .syncScan s = .next { s with
        syncSr := s.cfg.syncPattern, dstart := BitVec.ofNat 16 (i + 1), syncFound := true }) ∧
    ((∀ j, j < s.raw.length → syncSrAfter s (j + 1) ≠ s.cfg.syncPattern) →
      exec .syncScan s = .next { s with
        syncSr := syncSrAfter s s.raw.length, dstart := 0#16, syncFound := false })

/-- With the default start value and pattern, no match comes before 8 bits are in
(43_frame_sync.md R173). -/
def Obligations.NoSyncMatchBeforeEightBits : Prop :=
  ∀ s : State, s.cfg.syncSrInit = 0x00#8 → s.cfg.syncPattern = 0xA5#8 → s.raw.length ≤ 0x8000 →
    ∃ t, exec .syncScan s = .next t ∧ (t.syncFound = true → 8 ≤ t.dstart.toNat)

/-! ### Receive pipeline -/

/-- A RAW overflow reports Overflow(RAW) and decodes nothing; a decoded overflow reports Overflow(DEC)
after Decoded and writes no DEC element; both invalidate the results; with the defaults the second
cannot happen (44_packet_framer.md R212). -/
def Obligations.ReceiveOverflowsInvalidateTheResults : Prop :=
  (∀ s : State, s.rawOvf = true →
    exec .rxDecode s = .next { s with
      rxDone := true, decOvf := false, dec := [], plen := 0#16, rxcrcCalc := 0#16
      rxcrcRecv := 0#16, crcOk := false, lenOk := false, recValid := false
      raw := [], rawOvf := false, trace := s.trace ++ [.overflow .raw] }) ∧
  (∀ s : State, s.rawOvf = false → s.cfg.decCap < bytesAfterScan s →
    exec .rxDecode s = .next { s.syncScan with
      rxDone := true, decOvf := true, dec := [], plen := 0#16, rxcrcCalc := 0#16
      rxcrcRecv := 0#16, crcOk := false, lenOk := false, recValid := false
      raw := [], rawOvf := false
      trace := s.trace ++ [.decoded s.syncScan.syncFound s.syncScan.dstart
        (BitVec.ofNat 16 (bytesAfterScan s)), .overflow .dec] }) ∧
  (∀ s : State, s.cfg.rawCap = 512 → s.cfg.decCap = 32 → s.raw.length ≤ s.cfg.rawCap →
    bytesAfterScan s ≤ s.cfg.decCap)

/-- RX_DECODE decodes the whole bytes after DSTART, pair by pair and bit 7 first, reading no raw bit
past RAWN; it clears RAW and leaves every register outside the receive results alone
(44_packet_framer.md R210, R211, R220). The count of draws, which changes under DRAW alone, is the
model's own field (log 4, DESIGN CHOICE). -/
def Obligations.RxDecodeDecodesTheWholeBytes : Prop :=
  ∀ s : State, s.rawOvf = false → bytesAfterScan s ≤ s.cfg.decCap →
    ∃ t, exec .rxDecode s = .next t ∧
      t.dec.length = bytesAfterScan s ∧
      (∀ j k, j < bytesAfterScan s → k < 8 →
        let p := s.syncScan.dstart.toNat + 16 * j + 2 * k
        p + 1 < s.raw.length ∧
        (rawAt s.raw p ≠ rawAt s.raw (p + 1) ∨ s.cfg.manPolicy = .firstSample →
          (byteAt t.dec j).getLsbD (7 - k) = rawAt s.raw p)) ∧
      t = { s.syncScan with
        dec := t.dec, decOvf := false, rxDone := true, raw := [], rawOvf := false
        rxcrcCalc := t.rxcrcCalc, rxcrcRecv := t.rxcrcRecv, plen := t.plen, crcOk := t.crcOk
        lenOk := t.lenOk, recValid := t.recValid, trace := t.trace, draws := t.draws } ∧
      (s.cfg.manPolicy = .firstSample → t.draws = s.draws)

/-- The CRC check of a decoded attempt, over all bytes but the trailing two, low byte first, and its
event (44_packet_framer.md R214). -/
def Obligations.RxDecodeChecksTheCrc : Prop :=
  ∀ s : State, s.rawOvf = false → bytesAfterScan s ≤ s.cfg.decCap →
    ∃ t, exec .rxDecode s = .next t ∧
      (2 ≤ t.dec.length →
        t.rxcrcRecv = (byteAt t.dec (t.dec.length - 2)).setWidth 16 |||
          ((byteAt t.dec (t.dec.length - 1)).setWidth 16 <<< 8) ∧
        t.rxcrcCalc = crc16 s.cfg s.cfg.crcSeed (t.dec.take (t.dec.length - 2)) ∧
        t.crcOk = decide (t.rxcrcCalc = t.rxcrcRecv)) ∧
      (t.dec.length < 2 →
        t.rxcrcRecv = 0#16 ∧ t.rxcrcCalc = crc16 s.cfg s.cfg.crcSeed [] ∧ t.crcOk = false) ∧
      ∃ e rest, t.trace = s.trace ++ e ::
        (if t.crcOk then .crcOk t.rxcrcCalc else .crcMismatch t.rxcrcCalc t.rxcrcRecv) :: rest

/-- The length gate of a decoded attempt, whatever the CRC result, and its event
(44_packet_framer.md R215). -/
def Obligations.RxDecodeGatesTheLength : Prop :=
  ∀ s : State, s.rawOvf = false → bytesAfterScan s ≤ s.cfg.decCap →
    ∃ t, exec .rxDecode s = .next t ∧
      t.plen = (if 3 ≤ t.dec.length then BitVec.ofNat 16 (t.dec.length - 3) else 0#16) ∧
      t.lenOk = decide (3 ≤ t.dec.length ∧ t.dec.length - 3 = s.cfg.expectedPlen) ∧
      ∃ e c rest, t.trace = s.trace ++ [e, c] ++
        (if t.lenOk then [] else [.lenMismatch (BitVec.ofNat 16 t.dec.length)]) ++ rest ∧
        ∀ n, Event.lenMismatch n ∉ rest

/-- A Record is emitted only when the CRC and the length both passed, and one run's events come in
the fixed order of 44_packet_framer.md R216. -/
def Obligations.RxDecodeReportsInOrder : Prop :=
  (∀ s : State, s.rawOvf = false → bytesAfterScan s ≤ s.cfg.decCap →
    ∃ t, exec .rxDecode s = .next t ∧ t.recValid = (t.crcOk && t.lenOk) ∧
      t.trace = s.trace ++
        [.decoded s.syncScan.syncFound s.syncScan.dstart (BitVec.ofNat 16 (bytesAfterScan s))] ++
        [if t.crcOk then .crcOk t.rxcrcCalc else .crcMismatch t.rxcrcCalc t.rxcrcRecv] ++
        (if t.lenOk then [] else [.lenMismatch (BitVec.ofNat 16 t.dec.length)]) ++
        (if t.recValid then [.record ((t.dec.drop 1).take (t.dec.length - 3))] else [])) ∧
  (∀ s : State, s.rawOvf = false → s.cfg.decCap < bytesAfterScan s →
    ∃ t, exec .rxDecode s = .next t ∧ t.trace = s.trace ++
      [.decoded s.syncScan.syncFound s.syncScan.dstart (BitVec.ofNat 16 (bytesAfterScan s)),
       .overflow .dec]) ∧
  (∀ s : State, s.rawOvf = true →
    ∃ t, exec .rxDecode s = .next t ∧ t.trace = s.trace ++ [.overflow .raw])

/-! ### Transmit side -/

/-- TX_BEGIN empties TXP and clears TX_OVF alone, busy or not, and has one word
(44_packet_framer.md R198). -/
def Obligations.TxBeginStartsAPayload : Prop :=
  (∀ s : State, exec .txBegin s = .next { s with txp := [], txOvf := false }) ∧
  OnlyWordOf 0x30000000#32 .txBegin

/-- TX_PUSH appends one byte, or drops it at capacity, sets TX_OVF and reports Overflow(TX)
(44_packet_framer.md R194, R199). -/
def Obligations.TxPushNeverOverruns : Prop :=
  ∀ (b : Byte) (s : State),
    (s.txp.length < s.cfg.txCap → exec (.txPush b) s = .next { s with txp := s.txp ++ [b] }) ∧
    (s.cfg.txCap ≤ s.txp.length →
      exec (.txPush b) s = .next { s with txOvf := true, trace := s.trace ++ [.overflow .tx] })

/-- TX_BUILD while TX_BUSY = 1 or TX_OVF = 1 is refused: CMD_ERR <- 1 and no other effect
(44_packet_framer.md R195). -/
def Obligations.TxBuildIsRefusedWhileBusyOrOverflowed : Prop :=
  ∀ s : State, s.txBusy = true ∨ s.txOvf = true →
    exec .txBuild s = .next { s with cmdErr := true }

/-- An accepted TX_BUILD writes the frame of TXP and starts the sequencer; TXP, CRC and TX_OUT stay
(44_packet_framer.md R191, R200). That the preamble and the sync byte are the parameters' is the
model's reading (log 19, DEDUCED). -/
def Obligations.TxBuildWritesTheFrame : Prop :=
  ∀ s : State, s.txBusy = false → s.txOvf = false →
    let len : Byte := BitVec.ofNat 8 ((s.txp.length + s.cfg.lenBias) % 256)
    let c := crc16 s.cfg s.cfg.crcSeed ([len] ++ s.txp)
    exec .txBuild s = .next { s with
      fbuf := [s.cfg.preamble0, s.cfg.preamble1, s.cfg.syncByte, len] ++ s.txp ++
        [c.setWidth 8, (c >>> 8).setWidth 8]
      txbyte := 0#16, txhalf := 0#4, txBusy := true }

/-- One TX_STEP: idle drives IDLE_LEVEL; busy drives bit 15 - TXHALF of the Manchester word of
FBUF[TXBYTE] and moves on, ending the frame at FBN (44_packet_framer.md R197). -/
def Obligations.TxStepDrivesOneLineBit : Prop :=
  (∀ s : State, s.txBusy = false →
    exec .txStep s = .next { s with txOut := s.cfg.idleLevel }) ∧
  (∀ s : State, s.txBusy = true →
    ∃ level, level = (manEnc (byteAt s.fbuf s.txbyte.toNat)).getLsbD (15 - s.txhalf.toNat) ∧
    (s.txhalf.toNat < 15 →
      exec .txStep s = .next { s with txOut := level, txhalf := s.txhalf + 1#4 }) ∧
    (s.txhalf.toNat = 15 → (s.txbyte + 1#16).toNat ≠ s.fbuf.length →
      exec .txStep s = .next { s with txOut := level, txhalf := 0#4, txbyte := s.txbyte + 1#16 }) ∧
    (s.txhalf.toNat = 15 → (s.txbyte + 1#16).toNat = s.fbuf.length →
      exec .txStep s = .next { s with
        txOut := level, txhalf := 0#4, txbyte := s.txbyte + 1#16, txBusy := false }))

/-- A frame goes out as its line image: after k steps of a frame just built TX_OUT is line bit k - 1,
and exactly the 16·FBN-th step ends TX_BUSY (44_packet_framer.md R192, R197, R201). -/
def Obligations.TxStepsSendTheLineImage : Prop :=
  ∀ (s : State) (k : Nat), s.txBusy = true → s.txbyte = 0#16 → s.txhalf = 0#4 →
    s.fbuf.length ≤ 0x1000 → 1 ≤ k → k ≤ 16 * s.fbuf.length →
    runCommands (List.replicate k .txStep) s = .next { s with
      txOut := (lineImage s.fbuf).getD (k - 1) false
      txbyte := BitVec.ofNat 16 (k / 16), txhalf := BitVec.ofNat 4 (k % 16)
      txBusy := decide (k < 16 * s.fbuf.length) }

/-- The last line level of a frame is bit 8 of its CRC (70_reset_and_hazards.md R295). -/
def Obligations.LastLineLevelIsCrcBitEight : Prop :=
  ∀ (cfg : Config) (p : List Byte),
    (lineImage (frame cfg p)).getLast? = some ((frameCrc cfg p).getLsbD 8)

/-! ### The whole path, and the two command sources -/

/-- The frame round trip through the pipeline: the inverted line image of any payload's frame decodes
to the payload, verified, with a Record exactly for EXPECTED_PLEN bytes (44_packet_framer.md R220,
R221, 43_frame_sync.md R177), under either CRC form, LEN_BIAS and MAN_POLICY. -/
def Obligations.FrameRoundTripThroughThePipeline : Prop :=
  ∀ (reflected : Bool) (bias : Nat) (policy : ManPolicy) (p : List Byte) (s : State),
    s.cfg = defaultBut reflected bias policy → p.length ≤ 26 → s.rawOvf = false →
    s.raw = (lineImage (frame s.cfg p)).map (!·) →
    ∃ t, exec .rxDecode s = .next t ∧
      t.syncFound = true ∧ t.dstart = 48#16 ∧
      t.dec = [lenByte s.cfg p] ++ p ++
        [(frameCrc s.cfg p).setWidth 8, (frameCrc s.cfg p >>> 8).setWidth 8] ∧
      t.crcOk = true ∧ t.rxcrcCalc = frameCrc s.cfg p ∧ t.rxcrcRecv = frameCrc s.cfg p ∧
      t.plen = BitVec.ofNat 16 p.length ∧
      t.trace = s.trace ++
        [.decoded true 48#16 (BitVec.ofNat 16 (p.length + 3)), .crcOk (frameCrc s.cfg p)] ++
        (if p.length = 5 then [.record p] else [.lenMismatch (BitVec.ofNat 16 (p.length + 3))])

/-- The frame round trip on the line: each line bit of any payload's frame sampled 15, 16 or 17
times, after a low line, then at least 36 low samples and one high sample, decodes to the payload,
verified, provided CRC bit 8 is 1, so that the last run is not lost (44_packet_framer.md R221;
70_reset_and_hazards.md R295, R300; 42_pulse_classifier.md R150). One number of samples holds for the
whole frame, as R300 takes it. -/
def Obligations.FrameRoundTripOnTheLine : Prop :=
  ∀ (reflected : Bool) (bias : Nat) (policy : ManPolicy) (p : List Byte) (h g : Nat) (s : State),
    s.cfg = defaultBut reflected bias policy → s.cfg.WellFormed → p.length ≤ 26 →
    15 ≤ h → h ≤ 17 → 36 ≤ g →
    s.plvl = false → 35 ≤ s.pcnt.toNat → s.raw = [] → s.rawOvf = false →
    (frameCrc s.cfg p).getLsbD 8 = true →
    ∃ t, runCommands (lineTicks h (lineImage (frame s.cfg p)) ++
        List.replicate g (.rxTick false) ++ [.rxTick true]) s = .next t ∧
      t.dec = [lenByte s.cfg p] ++ p ++
        [(frameCrc s.cfg p).setWidth 8, (frameCrc s.cfg p >>> 8).setWidth 8] ∧
      t.crcOk = true ∧ t.plen = BitVec.ofNat 16 p.length ∧
      t.trace = s.trace ++
        [.decoded true 48#16 (BitVec.ofNat 16 (p.length + 3)), .crcOk (frameCrc s.cfg p)] ++
        (if p.length = 5 then [.record p] else [.lenMismatch (BitVec.ofNat 16 (p.length + 3))])

/-- The CRC, Manchester and transmit commands may be interleaved with ticks freely
(70_reset_and_hazards.md R297, 20_memory.md R73): every interleaving ends in the state of the host's
words followed by the ticks, and reports the same events up to order. A run takes a list of inputs
that replaces the waiting ones (log 1, DESIGN CHOICE), and an interleaving is one such list (log 2,
DESIGN CHOICE). -/
def Obligations.HostAndTicksInterleaveFreely : Prop :=
  ∀ (host : List Instr) (levels : List Bool) (s : State),
    s.cfg.WellFormed → s.cfg.manPolicy = .firstSample →
    (∀ i ∈ host, interleavesFreely i = true) →
    ∃ u, runInputs (commandInputs host ++ tickInputs levels) s = .next u ∧
      HoldsForEveryInterleaving
        (fun t => { t with trace := [] } = { u with trace := [] } ∧ t.trace.Perm u.trace)
        (commandInputs host) levels s
end

