-- ==== Sys2Proof/Laws/State.lean ====
section
/-! SUPPORT. One lemma per field for each update of the state, so that no proof unfolds a record
update. -/

namespace Sys2Proof.Machine

section emit
variable (s : State) (e : Event)

@[simp] theorem State.emit_cfg : (s.emit e).cfg = s.cfg := rfl
@[simp] theorem State.emit_crc : (s.emit e).crc = s.crc := rfl
@[simp] theorem State.emit_menc : (s.emit e).menc = s.menc := rfl
@[simp] theorem State.emit_mdec : (s.emit e).mdec = s.mdec := rfl
@[simp] theorem State.emit_plvl : (s.emit e).plvl = s.plvl := rfl
@[simp] theorem State.emit_pcnt : (s.emit e).pcnt = s.pcnt := rfl
@[simp] theorem State.emit_raw : (s.emit e).raw = s.raw := rfl
@[simp] theorem State.emit_rawOvf : (s.emit e).rawOvf = s.rawOvf := rfl
@[simp] theorem State.emit_syncSr : (s.emit e).syncSr = s.syncSr := rfl
@[simp] theorem State.emit_dstart : (s.emit e).dstart = s.dstart := rfl
@[simp] theorem State.emit_syncFound : (s.emit e).syncFound = s.syncFound := rfl
@[simp] theorem State.emit_dec : (s.emit e).dec = s.dec := rfl
@[simp] theorem State.emit_decOvf : (s.emit e).decOvf = s.decOvf := rfl
@[simp] theorem State.emit_rxcrcCalc : (s.emit e).rxcrcCalc = s.rxcrcCalc := rfl
@[simp] theorem State.emit_rxcrcRecv : (s.emit e).rxcrcRecv = s.rxcrcRecv := rfl
@[simp] theorem State.emit_plen : (s.emit e).plen = s.plen := rfl
@[simp] theorem State.emit_crcOk : (s.emit e).crcOk = s.crcOk := rfl
@[simp] theorem State.emit_lenOk : (s.emit e).lenOk = s.lenOk := rfl
@[simp] theorem State.emit_recValid : (s.emit e).recValid = s.recValid := rfl
@[simp] theorem State.emit_txp : (s.emit e).txp = s.txp := rfl
@[simp] theorem State.emit_txOvf : (s.emit e).txOvf = s.txOvf := rfl
@[simp] theorem State.emit_fbuf : (s.emit e).fbuf = s.fbuf := rfl
@[simp] theorem State.emit_txbyte : (s.emit e).txbyte = s.txbyte := rfl
@[simp] theorem State.emit_txhalf : (s.emit e).txhalf = s.txhalf := rfl
@[simp] theorem State.emit_txBusy : (s.emit e).txBusy = s.txBusy := rfl
@[simp] theorem State.emit_txOut : (s.emit e).txOut = s.txOut := rfl
@[simp] theorem State.emit_cmdErr : (s.emit e).cmdErr = s.cmdErr := rfl
@[simp] theorem State.emit_rxDone : (s.emit e).rxDone = s.rxDone := rfl
@[simp] theorem State.emit_trace : (s.emit e).trace = s.trace ++ [e] := rfl
@[simp] theorem State.emit_inputs : (s.emit e).inputs = s.inputs := rfl
@[simp] theorem State.emit_draws : (s.emit e).draws = s.draws := rfl

end emit

section rawClear
variable (s : State)

@[simp] theorem State.rawClear_cfg : s.rawClear.cfg = s.cfg := rfl
@[simp] theorem State.rawClear_crc : s.rawClear.crc = s.crc := rfl
@[simp] theorem State.rawClear_menc : s.rawClear.menc = s.menc := rfl
@[simp] theorem State.rawClear_mdec : s.rawClear.mdec = s.mdec := rfl
@[simp] theorem State.rawClear_plvl : s.rawClear.plvl = s.plvl := rfl
@[simp] theorem State.rawClear_pcnt : s.rawClear.pcnt = s.pcnt := rfl
@[simp] theorem State.rawClear_raw : s.rawClear.raw = [] := rfl
@[simp] theorem State.rawClear_rawOvf : s.rawClear.rawOvf = false := rfl
@[simp] theorem State.rawClear_syncSr : s.rawClear.syncSr = s.syncSr := rfl
@[simp] theorem State.rawClear_dstart : s.rawClear.dstart = s.dstart := rfl
@[simp] theorem State.rawClear_syncFound : s.rawClear.syncFound = s.syncFound := rfl
@[simp] theorem State.rawClear_dec : s.rawClear.dec = s.dec := rfl
@[simp] theorem State.rawClear_decOvf : s.rawClear.decOvf = s.decOvf := rfl
@[simp] theorem State.rawClear_rxcrcCalc : s.rawClear.rxcrcCalc = s.rxcrcCalc := rfl
@[simp] theorem State.rawClear_rxcrcRecv : s.rawClear.rxcrcRecv = s.rxcrcRecv := rfl
@[simp] theorem State.rawClear_plen : s.rawClear.plen = s.plen := rfl
@[simp] theorem State.rawClear_crcOk : s.rawClear.crcOk = s.crcOk := rfl
@[simp] theorem State.rawClear_lenOk : s.rawClear.lenOk = s.lenOk := rfl
@[simp] theorem State.rawClear_recValid : s.rawClear.recValid = s.recValid := rfl
@[simp] theorem State.rawClear_txp : s.rawClear.txp = s.txp := rfl
@[simp] theorem State.rawClear_txOvf : s.rawClear.txOvf = s.txOvf := rfl
@[simp] theorem State.rawClear_fbuf : s.rawClear.fbuf = s.fbuf := rfl
@[simp] theorem State.rawClear_txbyte : s.rawClear.txbyte = s.txbyte := rfl
@[simp] theorem State.rawClear_txhalf : s.rawClear.txhalf = s.txhalf := rfl
@[simp] theorem State.rawClear_txBusy : s.rawClear.txBusy = s.txBusy := rfl
@[simp] theorem State.rawClear_txOut : s.rawClear.txOut = s.txOut := rfl
@[simp] theorem State.rawClear_cmdErr : s.rawClear.cmdErr = s.cmdErr := rfl
@[simp] theorem State.rawClear_rxDone : s.rawClear.rxDone = s.rxDone := rfl
@[simp] theorem State.rawClear_trace : s.rawClear.trace = s.trace := rfl
@[simp] theorem State.rawClear_inputs : s.rawClear.inputs = s.inputs := rfl
@[simp] theorem State.rawClear_draws : s.rawClear.draws = s.draws := rfl

end rawClear

section commandError
variable (s : State)

@[simp] theorem State.commandError_cfg : s.commandError.cfg = s.cfg := rfl
@[simp] theorem State.commandError_crc : s.commandError.crc = s.crc := rfl
@[simp] theorem State.commandError_menc : s.commandError.menc = s.menc := rfl
@[simp] theorem State.commandError_mdec : s.commandError.mdec = s.mdec := rfl
@[simp] theorem State.commandError_plvl : s.commandError.plvl = s.plvl := rfl
@[simp] theorem State.commandError_pcnt : s.commandError.pcnt = s.pcnt := rfl
@[simp] theorem State.commandError_raw : s.commandError.raw = s.raw := rfl
@[simp] theorem State.commandError_rawOvf : s.commandError.rawOvf = s.rawOvf := rfl
@[simp] theorem State.commandError_syncSr : s.commandError.syncSr = s.syncSr := rfl
@[simp] theorem State.commandError_dstart : s.commandError.dstart = s.dstart := rfl
@[simp] theorem State.commandError_syncFound : s.commandError.syncFound = s.syncFound := rfl
@[simp] theorem State.commandError_dec : s.commandError.dec = s.dec := rfl
@[simp] theorem State.commandError_decOvf : s.commandError.decOvf = s.decOvf := rfl
@[simp] theorem State.commandError_rxcrcCalc : s.commandError.rxcrcCalc = s.rxcrcCalc := rfl
@[simp] theorem State.commandError_rxcrcRecv : s.commandError.rxcrcRecv = s.rxcrcRecv := rfl
@[simp] theorem State.commandError_plen : s.commandError.plen = s.plen := rfl
@[simp] theorem State.commandError_crcOk : s.commandError.crcOk = s.crcOk := rfl
@[simp] theorem State.commandError_lenOk : s.commandError.lenOk = s.lenOk := rfl
@[simp] theorem State.commandError_recValid : s.commandError.recValid = s.recValid := rfl
@[simp] theorem State.commandError_txp : s.commandError.txp = s.txp := rfl
@[simp] theorem State.commandError_txOvf : s.commandError.txOvf = s.txOvf := rfl
@[simp] theorem State.commandError_fbuf : s.commandError.fbuf = s.fbuf := rfl
@[simp] theorem State.commandError_txbyte : s.commandError.txbyte = s.txbyte := rfl
@[simp] theorem State.commandError_txhalf : s.commandError.txhalf = s.txhalf := rfl
@[simp] theorem State.commandError_txBusy : s.commandError.txBusy = s.txBusy := rfl
@[simp] theorem State.commandError_txOut : s.commandError.txOut = s.txOut := rfl
@[simp] theorem State.commandError_cmdErr : s.commandError.cmdErr = true := rfl
@[simp] theorem State.commandError_rxDone : s.commandError.rxDone = s.rxDone := rfl
@[simp] theorem State.commandError_trace : s.commandError.trace = s.trace := rfl
@[simp] theorem State.commandError_inputs : s.commandError.inputs = s.inputs := rfl
@[simp] theorem State.commandError_draws : s.commandError.draws = s.draws := rfl

end commandError

section clearSticky
variable (s : State)

@[simp] theorem State.clearSticky_cfg : s.clearSticky.cfg = s.cfg := rfl
@[simp] theorem State.clearSticky_crc : s.clearSticky.crc = s.crc := rfl
@[simp] theorem State.clearSticky_menc : s.clearSticky.menc = s.menc := rfl
@[simp] theorem State.clearSticky_mdec : s.clearSticky.mdec = s.mdec := rfl
@[simp] theorem State.clearSticky_plvl : s.clearSticky.plvl = s.plvl := rfl
@[simp] theorem State.clearSticky_pcnt : s.clearSticky.pcnt = s.pcnt := rfl
@[simp] theorem State.clearSticky_raw : s.clearSticky.raw = s.raw := rfl
@[simp] theorem State.clearSticky_rawOvf : s.clearSticky.rawOvf = s.rawOvf := rfl
@[simp] theorem State.clearSticky_syncSr : s.clearSticky.syncSr = s.syncSr := rfl
@[simp] theorem State.clearSticky_dstart : s.clearSticky.dstart = s.dstart := rfl
@[simp] theorem State.clearSticky_syncFound : s.clearSticky.syncFound = s.syncFound := rfl
@[simp] theorem State.clearSticky_dec : s.clearSticky.dec = s.dec := rfl
@[simp] theorem State.clearSticky_decOvf : s.clearSticky.decOvf = s.decOvf := rfl
@[simp] theorem State.clearSticky_rxcrcCalc : s.clearSticky.rxcrcCalc = s.rxcrcCalc := rfl
@[simp] theorem State.clearSticky_rxcrcRecv : s.clearSticky.rxcrcRecv = s.rxcrcRecv := rfl
@[simp] theorem State.clearSticky_plen : s.clearSticky.plen = s.plen := rfl
@[simp] theorem State.clearSticky_crcOk : s.clearSticky.crcOk = s.crcOk := rfl
@[simp] theorem State.clearSticky_lenOk : s.clearSticky.lenOk = s.lenOk := rfl
@[simp] theorem State.clearSticky_recValid : s.clearSticky.recValid = s.recValid := rfl
@[simp] theorem State.clearSticky_txp : s.clearSticky.txp = s.txp := rfl
@[simp] theorem State.clearSticky_txOvf : s.clearSticky.txOvf = s.txOvf := rfl
@[simp] theorem State.clearSticky_fbuf : s.clearSticky.fbuf = s.fbuf := rfl
@[simp] theorem State.clearSticky_txbyte : s.clearSticky.txbyte = s.txbyte := rfl
@[simp] theorem State.clearSticky_txhalf : s.clearSticky.txhalf = s.txhalf := rfl
@[simp] theorem State.clearSticky_txBusy : s.clearSticky.txBusy = s.txBusy := rfl
@[simp] theorem State.clearSticky_txOut : s.clearSticky.txOut = s.txOut := rfl
@[simp] theorem State.clearSticky_cmdErr : s.clearSticky.cmdErr = false := rfl
@[simp] theorem State.clearSticky_rxDone : s.clearSticky.rxDone = false := rfl
@[simp] theorem State.clearSticky_trace : s.clearSticky.trace = s.trace := rfl
@[simp] theorem State.clearSticky_inputs : s.clearSticky.inputs = s.inputs := rfl
@[simp] theorem State.clearSticky_draws : s.clearSticky.draws = s.draws := rfl

end clearSticky

section invalidateResults
variable (s : State)

@[simp] theorem State.invalidateResults_cfg : s.invalidateResults.cfg = s.cfg := rfl
@[simp] theorem State.invalidateResults_crc : s.invalidateResults.crc = s.crc := rfl
@[simp] theorem State.invalidateResults_menc : s.invalidateResults.menc = s.menc := rfl
@[simp] theorem State.invalidateResults_mdec : s.invalidateResults.mdec = s.mdec := rfl
@[simp] theorem State.invalidateResults_plvl : s.invalidateResults.plvl = s.plvl := rfl
@[simp] theorem State.invalidateResults_pcnt : s.invalidateResults.pcnt = s.pcnt := rfl
@[simp] theorem State.invalidateResults_raw : s.invalidateResults.raw = s.raw := rfl
@[simp] theorem State.invalidateResults_rawOvf : s.invalidateResults.rawOvf = s.rawOvf := rfl
@[simp] theorem State.invalidateResults_syncSr : s.invalidateResults.syncSr = s.syncSr := rfl
@[simp] theorem State.invalidateResults_dstart : s.invalidateResults.dstart = s.dstart := rfl
@[simp] theorem State.invalidateResults_syncFound : s.invalidateResults.syncFound = s.syncFound := rfl
@[simp] theorem State.invalidateResults_dec : s.invalidateResults.dec = [] := rfl
@[simp] theorem State.invalidateResults_decOvf : s.invalidateResults.decOvf = s.decOvf := rfl
@[simp] theorem State.invalidateResults_rxcrcCalc : s.invalidateResults.rxcrcCalc = 0#16 := rfl
@[simp] theorem State.invalidateResults_rxcrcRecv : s.invalidateResults.rxcrcRecv = 0#16 := rfl
@[simp] theorem State.invalidateResults_plen : s.invalidateResults.plen = 0#16 := rfl
@[simp] theorem State.invalidateResults_crcOk : s.invalidateResults.crcOk = false := rfl
@[simp] theorem State.invalidateResults_lenOk : s.invalidateResults.lenOk = false := rfl
@[simp] theorem State.invalidateResults_recValid : s.invalidateResults.recValid = false := rfl
@[simp] theorem State.invalidateResults_txp : s.invalidateResults.txp = s.txp := rfl
@[simp] theorem State.invalidateResults_txOvf : s.invalidateResults.txOvf = s.txOvf := rfl
@[simp] theorem State.invalidateResults_fbuf : s.invalidateResults.fbuf = s.fbuf := rfl
@[simp] theorem State.invalidateResults_txbyte : s.invalidateResults.txbyte = s.txbyte := rfl
@[simp] theorem State.invalidateResults_txhalf : s.invalidateResults.txhalf = s.txhalf := rfl
@[simp] theorem State.invalidateResults_txBusy : s.invalidateResults.txBusy = s.txBusy := rfl
@[simp] theorem State.invalidateResults_txOut : s.invalidateResults.txOut = s.txOut := rfl
@[simp] theorem State.invalidateResults_cmdErr : s.invalidateResults.cmdErr = s.cmdErr := rfl
@[simp] theorem State.invalidateResults_rxDone : s.invalidateResults.rxDone = s.rxDone := rfl
@[simp] theorem State.invalidateResults_trace : s.invalidateResults.trace = s.trace := rfl
@[simp] theorem State.invalidateResults_inputs : s.invalidateResults.inputs = s.inputs := rfl
@[simp] theorem State.invalidateResults_draws : s.invalidateResults.draws = s.draws := rfl

end invalidateResults

section resetState
variable (s : State)

@[simp] theorem State.resetState_cfg : s.resetState.cfg = s.cfg := rfl
@[simp] theorem State.resetState_crc : s.resetState.crc = (State.resetFor s.cfg).crc := rfl
@[simp] theorem State.resetState_menc : s.resetState.menc = (State.resetFor s.cfg).menc := rfl
@[simp] theorem State.resetState_mdec : s.resetState.mdec = (State.resetFor s.cfg).mdec := rfl
@[simp] theorem State.resetState_plvl : s.resetState.plvl = (State.resetFor s.cfg).plvl := rfl
@[simp] theorem State.resetState_pcnt : s.resetState.pcnt = (State.resetFor s.cfg).pcnt := rfl
@[simp] theorem State.resetState_raw : s.resetState.raw = (State.resetFor s.cfg).raw := rfl
@[simp] theorem State.resetState_rawOvf : s.resetState.rawOvf = (State.resetFor s.cfg).rawOvf := rfl
@[simp] theorem State.resetState_syncSr : s.resetState.syncSr = (State.resetFor s.cfg).syncSr := rfl
@[simp] theorem State.resetState_dstart : s.resetState.dstart = (State.resetFor s.cfg).dstart := rfl
@[simp] theorem State.resetState_syncFound : s.resetState.syncFound = (State.resetFor s.cfg).syncFound := rfl
@[simp] theorem State.resetState_dec : s.resetState.dec = (State.resetFor s.cfg).dec := rfl
@[simp] theorem State.resetState_decOvf : s.resetState.decOvf = (State.resetFor s.cfg).decOvf := rfl
@[simp] theorem State.resetState_rxcrcCalc : s.resetState.rxcrcCalc = (State.resetFor s.cfg).rxcrcCalc := rfl
@[simp] theorem State.resetState_rxcrcRecv : s.resetState.rxcrcRecv = (State.resetFor s.cfg).rxcrcRecv := rfl
@[simp] theorem State.resetState_plen : s.resetState.plen = (State.resetFor s.cfg).plen := rfl
@[simp] theorem State.resetState_crcOk : s.resetState.crcOk = (State.resetFor s.cfg).crcOk := rfl
@[simp] theorem State.resetState_lenOk : s.resetState.lenOk = (State.resetFor s.cfg).lenOk := rfl
@[simp] theorem State.resetState_recValid : s.resetState.recValid = (State.resetFor s.cfg).recValid := rfl
@[simp] theorem State.resetState_txp : s.resetState.txp = (State.resetFor s.cfg).txp := rfl
@[simp] theorem State.resetState_txOvf : s.resetState.txOvf = (State.resetFor s.cfg).txOvf := rfl
@[simp] theorem State.resetState_fbuf : s.resetState.fbuf = (State.resetFor s.cfg).fbuf := rfl
@[simp] theorem State.resetState_txbyte : s.resetState.txbyte = (State.resetFor s.cfg).txbyte := rfl
@[simp] theorem State.resetState_txhalf : s.resetState.txhalf = (State.resetFor s.cfg).txhalf := rfl
@[simp] theorem State.resetState_txBusy : s.resetState.txBusy = (State.resetFor s.cfg).txBusy := rfl
@[simp] theorem State.resetState_txOut : s.resetState.txOut = (State.resetFor s.cfg).txOut := rfl
@[simp] theorem State.resetState_cmdErr : s.resetState.cmdErr = (State.resetFor s.cfg).cmdErr := rfl
@[simp] theorem State.resetState_rxDone : s.resetState.rxDone = (State.resetFor s.cfg).rxDone := rfl
@[simp] theorem State.resetState_trace : s.resetState.trace = s.trace := rfl
@[simp] theorem State.resetState_inputs : s.resetState.inputs = s.inputs := rfl
@[simp] theorem State.resetState_draws : s.resetState.draws = s.draws := rfl

end resetState

section syncScan
variable (s : State)

@[simp] theorem State.syncScan_cfg : s.syncScan.cfg = s.cfg := rfl
@[simp] theorem State.syncScan_crc : s.syncScan.crc = s.crc := rfl
@[simp] theorem State.syncScan_menc : s.syncScan.menc = s.menc := rfl
@[simp] theorem State.syncScan_mdec : s.syncScan.mdec = s.mdec := rfl
@[simp] theorem State.syncScan_plvl : s.syncScan.plvl = s.plvl := rfl
@[simp] theorem State.syncScan_pcnt : s.syncScan.pcnt = s.pcnt := rfl
@[simp] theorem State.syncScan_raw : s.syncScan.raw = s.raw := rfl
@[simp] theorem State.syncScan_rawOvf : s.syncScan.rawOvf = s.rawOvf := rfl
@[simp] theorem State.syncScan_syncSr : s.syncScan.syncSr = (scanRaw s.cfg s.raw).sr := rfl
@[simp] theorem State.syncScan_dstart : s.syncScan.dstart = countWord (scanRaw s.cfg s.raw).start := rfl
@[simp] theorem State.syncScan_syncFound : s.syncScan.syncFound = (scanRaw s.cfg s.raw).found := rfl
@[simp] theorem State.syncScan_dec : s.syncScan.dec = s.dec := rfl
@[simp] theorem State.syncScan_decOvf : s.syncScan.decOvf = s.decOvf := rfl
@[simp] theorem State.syncScan_rxcrcCalc : s.syncScan.rxcrcCalc = s.rxcrcCalc := rfl
@[simp] theorem State.syncScan_rxcrcRecv : s.syncScan.rxcrcRecv = s.rxcrcRecv := rfl
@[simp] theorem State.syncScan_plen : s.syncScan.plen = s.plen := rfl
@[simp] theorem State.syncScan_crcOk : s.syncScan.crcOk = s.crcOk := rfl
@[simp] theorem State.syncScan_lenOk : s.syncScan.lenOk = s.lenOk := rfl
@[simp] theorem State.syncScan_recValid : s.syncScan.recValid = s.recValid := rfl
@[simp] theorem State.syncScan_txp : s.syncScan.txp = s.txp := rfl
@[simp] theorem State.syncScan_txOvf : s.syncScan.txOvf = s.txOvf := rfl
@[simp] theorem State.syncScan_fbuf : s.syncScan.fbuf = s.fbuf := rfl
@[simp] theorem State.syncScan_txbyte : s.syncScan.txbyte = s.txbyte := rfl
@[simp] theorem State.syncScan_txhalf : s.syncScan.txhalf = s.txhalf := rfl
@[simp] theorem State.syncScan_txBusy : s.syncScan.txBusy = s.txBusy := rfl
@[simp] theorem State.syncScan_txOut : s.syncScan.txOut = s.txOut := rfl
@[simp] theorem State.syncScan_cmdErr : s.syncScan.cmdErr = s.cmdErr := rfl
@[simp] theorem State.syncScan_rxDone : s.syncScan.rxDone = s.rxDone := rfl
@[simp] theorem State.syncScan_trace : s.syncScan.trace = s.trace := rfl
@[simp] theorem State.syncScan_inputs : s.syncScan.inputs = s.inputs := rfl
@[simp] theorem State.syncScan_draws : s.syncScan.draws = s.draws := rfl

end syncScan

section startFrame
variable (s : State)

@[simp] theorem State.startFrame_cfg : s.startFrame.cfg = s.cfg := rfl
@[simp] theorem State.startFrame_crc : s.startFrame.crc = s.crc := rfl
@[simp] theorem State.startFrame_menc : s.startFrame.menc = s.menc := rfl
@[simp] theorem State.startFrame_mdec : s.startFrame.mdec = s.mdec := rfl
@[simp] theorem State.startFrame_plvl : s.startFrame.plvl = s.plvl := rfl
@[simp] theorem State.startFrame_pcnt : s.startFrame.pcnt = s.pcnt := rfl
@[simp] theorem State.startFrame_raw : s.startFrame.raw = s.raw := rfl
@[simp] theorem State.startFrame_rawOvf : s.startFrame.rawOvf = s.rawOvf := rfl
@[simp] theorem State.startFrame_syncSr : s.startFrame.syncSr = s.syncSr := rfl
@[simp] theorem State.startFrame_dstart : s.startFrame.dstart = s.dstart := rfl
@[simp] theorem State.startFrame_syncFound : s.startFrame.syncFound = s.syncFound := rfl
@[simp] theorem State.startFrame_dec : s.startFrame.dec = s.dec := rfl
@[simp] theorem State.startFrame_decOvf : s.startFrame.decOvf = s.decOvf := rfl
@[simp] theorem State.startFrame_rxcrcCalc : s.startFrame.rxcrcCalc = s.rxcrcCalc := rfl
@[simp] theorem State.startFrame_rxcrcRecv : s.startFrame.rxcrcRecv = s.rxcrcRecv := rfl
@[simp] theorem State.startFrame_plen : s.startFrame.plen = s.plen := rfl
@[simp] theorem State.startFrame_crcOk : s.startFrame.crcOk = s.crcOk := rfl
@[simp] theorem State.startFrame_lenOk : s.startFrame.lenOk = s.lenOk := rfl
@[simp] theorem State.startFrame_recValid : s.startFrame.recValid = s.recValid := rfl
@[simp] theorem State.startFrame_txp : s.startFrame.txp = s.txp := rfl
@[simp] theorem State.startFrame_txOvf : s.startFrame.txOvf = s.txOvf := rfl
@[simp] theorem State.startFrame_fbuf : s.startFrame.fbuf = frame s.cfg s.txp := rfl
@[simp] theorem State.startFrame_txbyte : s.startFrame.txbyte = 0#16 := rfl
@[simp] theorem State.startFrame_txhalf : s.startFrame.txhalf = 0#4 := rfl
@[simp] theorem State.startFrame_txBusy : s.startFrame.txBusy = true := rfl
@[simp] theorem State.startFrame_txOut : s.startFrame.txOut = s.txOut := rfl
@[simp] theorem State.startFrame_cmdErr : s.startFrame.cmdErr = s.cmdErr := rfl
@[simp] theorem State.startFrame_rxDone : s.startFrame.rxDone = s.rxDone := rfl
@[simp] theorem State.startFrame_trace : s.startFrame.trace = s.trace := rfl
@[simp] theorem State.startFrame_inputs : s.startFrame.inputs = s.inputs := rfl
@[simp] theorem State.startFrame_draws : s.startFrame.draws = s.draws := rfl

end startFrame

section countTick
variable (s : State)

@[simp] theorem State.countTick_cfg : s.countTick.cfg = s.cfg := rfl
@[simp] theorem State.countTick_crc : s.countTick.crc = s.crc := rfl
@[simp] theorem State.countTick_menc : s.countTick.menc = s.menc := rfl
@[simp] theorem State.countTick_mdec : s.countTick.mdec = s.mdec := rfl
@[simp] theorem State.countTick_plvl : s.countTick.plvl = s.plvl := rfl
@[simp] theorem State.countTick_pcnt : s.countTick.pcnt = BitVec.ofNat 8 (min (s.pcnt.toNat + 1) s.cfg.pcntMax.toNat) := rfl
@[simp] theorem State.countTick_raw : s.countTick.raw = s.raw := rfl
@[simp] theorem State.countTick_rawOvf : s.countTick.rawOvf = s.rawOvf := rfl
@[simp] theorem State.countTick_syncSr : s.countTick.syncSr = s.syncSr := rfl
@[simp] theorem State.countTick_dstart : s.countTick.dstart = s.dstart := rfl
@[simp] theorem State.countTick_syncFound : s.countTick.syncFound = s.syncFound := rfl
@[simp] theorem State.countTick_dec : s.countTick.dec = s.dec := rfl
@[simp] theorem State.countTick_decOvf : s.countTick.decOvf = s.decOvf := rfl
@[simp] theorem State.countTick_rxcrcCalc : s.countTick.rxcrcCalc = s.rxcrcCalc := rfl
@[simp] theorem State.countTick_rxcrcRecv : s.countTick.rxcrcRecv = s.rxcrcRecv := rfl
@[simp] theorem State.countTick_plen : s.countTick.plen = s.plen := rfl
@[simp] theorem State.countTick_crcOk : s.countTick.crcOk = s.crcOk := rfl
@[simp] theorem State.countTick_lenOk : s.countTick.lenOk = s.lenOk := rfl
@[simp] theorem State.countTick_recValid : s.countTick.recValid = s.recValid := rfl
@[simp] theorem State.countTick_txp : s.countTick.txp = s.txp := rfl
@[simp] theorem State.countTick_txOvf : s.countTick.txOvf = s.txOvf := rfl
@[simp] theorem State.countTick_fbuf : s.countTick.fbuf = s.fbuf := rfl
@[simp] theorem State.countTick_txbyte : s.countTick.txbyte = s.txbyte := rfl
@[simp] theorem State.countTick_txhalf : s.countTick.txhalf = s.txhalf := rfl
@[simp] theorem State.countTick_txBusy : s.countTick.txBusy = s.txBusy := rfl
@[simp] theorem State.countTick_txOut : s.countTick.txOut = s.txOut := rfl
@[simp] theorem State.countTick_cmdErr : s.countTick.cmdErr = s.cmdErr := rfl
@[simp] theorem State.countTick_rxDone : s.countTick.rxDone = s.rxDone := rfl
@[simp] theorem State.countTick_trace : s.countTick.trace = s.trace := rfl
@[simp] theorem State.countTick_inputs : s.countTick.inputs = s.inputs := rfl
@[simp] theorem State.countTick_draws : s.countTick.draws = s.draws := rfl

end countTick

section acceptLevel
variable (s : State) (l : Bool)

@[simp] theorem State.acceptLevel_cfg : (s.acceptLevel l).cfg = s.cfg := rfl
@[simp] theorem State.acceptLevel_crc : (s.acceptLevel l).crc = s.crc := rfl
@[simp] theorem State.acceptLevel_menc : (s.acceptLevel l).menc = s.menc := rfl
@[simp] theorem State.acceptLevel_mdec : (s.acceptLevel l).mdec = s.mdec := rfl
@[simp] theorem State.acceptLevel_plvl : (s.acceptLevel l).plvl = l := rfl
@[simp] theorem State.acceptLevel_pcnt : (s.acceptLevel l).pcnt = 0#8 := rfl
@[simp] theorem State.acceptLevel_raw : (s.acceptLevel l).raw = s.raw := rfl
@[simp] theorem State.acceptLevel_rawOvf : (s.acceptLevel l).rawOvf = s.rawOvf := rfl
@[simp] theorem State.acceptLevel_syncSr : (s.acceptLevel l).syncSr = s.syncSr := rfl
@[simp] theorem State.acceptLevel_dstart : (s.acceptLevel l).dstart = s.dstart := rfl
@[simp] theorem State.acceptLevel_syncFound : (s.acceptLevel l).syncFound = s.syncFound := rfl
@[simp] theorem State.acceptLevel_dec : (s.acceptLevel l).dec = s.dec := rfl
@[simp] theorem State.acceptLevel_decOvf : (s.acceptLevel l).decOvf = s.decOvf := rfl
@[simp] theorem State.acceptLevel_rxcrcCalc : (s.acceptLevel l).rxcrcCalc = s.rxcrcCalc := rfl
@[simp] theorem State.acceptLevel_rxcrcRecv : (s.acceptLevel l).rxcrcRecv = s.rxcrcRecv := rfl
@[simp] theorem State.acceptLevel_plen : (s.acceptLevel l).plen = s.plen := rfl
@[simp] theorem State.acceptLevel_crcOk : (s.acceptLevel l).crcOk = s.crcOk := rfl
@[simp] theorem State.acceptLevel_lenOk : (s.acceptLevel l).lenOk = s.lenOk := rfl
@[simp] theorem State.acceptLevel_recValid : (s.acceptLevel l).recValid = s.recValid := rfl
@[simp] theorem State.acceptLevel_txp : (s.acceptLevel l).txp = s.txp := rfl
@[simp] theorem State.acceptLevel_txOvf : (s.acceptLevel l).txOvf = s.txOvf := rfl
@[simp] theorem State.acceptLevel_fbuf : (s.acceptLevel l).fbuf = s.fbuf := rfl
@[simp] theorem State.acceptLevel_txbyte : (s.acceptLevel l).txbyte = s.txbyte := rfl
@[simp] theorem State.acceptLevel_txhalf : (s.acceptLevel l).txhalf = s.txhalf := rfl
@[simp] theorem State.acceptLevel_txBusy : (s.acceptLevel l).txBusy = s.txBusy := rfl
@[simp] theorem State.acceptLevel_txOut : (s.acceptLevel l).txOut = s.txOut := rfl
@[simp] theorem State.acceptLevel_cmdErr : (s.acceptLevel l).cmdErr = s.cmdErr := rfl
@[simp] theorem State.acceptLevel_rxDone : (s.acceptLevel l).rxDone = s.rxDone := rfl
@[simp] theorem State.acceptLevel_trace : (s.acceptLevel l).trace = s.trace := rfl
@[simp] theorem State.acceptLevel_inputs : (s.acceptLevel l).inputs = s.inputs := rfl
@[simp] theorem State.acceptLevel_draws : (s.acceptLevel l).draws = s.draws := rfl

end acceptLevel

end Sys2Proof.Machine
end

