-- ==== Sys2Proof/Laws/Ops.lean ====
section
/-! SUPPORT. What each shared operation can do, said once: as one record update where it has
branches, as bounds where it appends, and as one case analysis for a step. -/

namespace Sys2Proof.Machine

/-- `raw_push` as one update (42_pulse_classifier.md R146). -/
theorem State.rawPush_eq (s : State) (x : Bool) :
    s.rawPush x =
      { s with raw := if s.raw.length < s.cfg.rawCap then s.raw ++ [x] else s.raw
               rawOvf := s.rawOvf || !decide (s.raw.length < s.cfg.rawCap) } := by
  unfold State.rawPush
  by_cases h : s.raw.length < s.cfg.rawCap <;> simp [h]

/-- `tx_push` as one update (44_packet_framer.md R194). -/
theorem State.txPush_eq (s : State) (b : Byte) :
    s.txPush b =
      { s with txp := if s.txp.length < s.cfg.txCap then s.txp ++ [b] else s.txp
               txOvf := s.txOvf || !decide (s.txp.length < s.cfg.txCap)
               trace := if s.txp.length < s.cfg.txCap then s.trace
                        else s.trace ++ [.overflow .tx] } := by
  unfold State.txPush
  by_cases h : s.txp.length < s.cfg.txCap <;> simp [h, State.emit]

/-- Drawing free bytes changes the count of draws alone. -/
theorem State.useDraws_eq (s : State) (n : Nat) :
    s.useDraws n =
      { s with draws := if s.cfg.manPolicy = .draw then s.draws + n else s.draws } := by
  unfold State.useDraws
  cases h : s.cfg.manPolicy <;> simp

/-- An append to RAW keeps its bound (20_memory.md R70). -/
theorem State.rawPush_length_le (s : State) (x : Bool) (h : s.raw.length ≤ s.cfg.rawCap) :
    (s.rawPush x).raw.length ≤ s.cfg.rawCap := by
  rw [s.rawPush_eq]
  dsimp only
  split
  · rw [List.length_append, List.length_singleton]; omega
  · exact h

/-- An append to TXP keeps its bound (20_memory.md R70). -/
theorem State.txPush_length_le (s : State) (b : Byte) (h : s.txp.length ≤ s.cfg.txCap) :
    (s.txPush b).txp.length ≤ s.cfg.txCap := by
  rw [s.txPush_eq]
  dsimp only
  split
  · rw [List.length_append, List.length_singleton]; omega
  · exact h

/-- A scan's start index never passes the bits it has seen. -/
theorem scanFrom_start_le (p sr : Byte) (i : Nat) (raw : List Bool) :
    (scanFrom p sr i raw).start ≤ i + raw.length := by
  induction raw generalizing sr i with
  | nil => simp [scanFrom]
  | cons r rest ih =>
    unfold scanFrom
    split
    · simp
    · have := ih (syncShift sr r) (i + 1)
      simp; omega

/-- A scan's start lies within RAW (44_packet_framer.md R211). -/
theorem scanRaw_start_le (cfg : Config) (raw : List Bool) :
    (scanRaw cfg raw).start ≤ raw.length := by
  have := scanFrom_start_le cfg.syncPattern cfg.syncSrInit 0 raw
  rwa [Nat.zero_add] at this

/-- What the pipeline has decoded once it accepts an attempt (44_packet_framer.md R211). -/
abbrev State.attemptBytes (s : State) : List Byte :=
  decodeBytes s.cfg.manPolicy s.draws s.raw s.syncScan.dstart (wholeBytes s.raw s.syncScan.dstart)

/-- The Decoded event of the pipeline (44_packet_framer.md R210). -/
abbrev State.decodedEvent (s : State) : Event :=
  .decoded s.syncScan.syncFound s.syncScan.dstart (countWord (wholeBytes s.raw s.syncScan.dstart))

/-- The pipeline on an attempt that lost raw bits (44_packet_framer.md R212). -/
theorem State.decodePipeline_of_rawOvf (s : State) (h : s.rawOvf = true) :
    s.decodePipeline =
      { s with rxDone := true, decOvf := false, dec := [], plen := 0#16, rxcrcCalc := 0#16
               rxcrcRecv := 0#16, crcOk := false, lenOk := false, recValid := false
               trace := s.trace ++ [.overflow .raw] } := by
  unfold State.decodePipeline
  rw [if_pos h]
  rfl

/-- The pipeline on an attempt that does not fit DEC (44_packet_framer.md R212). -/
theorem State.decodePipeline_of_decOvf (s : State) (h : s.rawOvf = false)
    (hn : s.cfg.decCap < wholeBytes s.raw s.syncScan.dstart) :
    s.decodePipeline =
      { s.syncScan with
        rxDone := true, decOvf := true, dec := [], plen := 0#16, rxcrcCalc := 0#16
        rxcrcRecv := 0#16, crcOk := false, lenOk := false, recValid := false
        trace := s.trace ++ [s.decodedEvent, .overflow .dec] } := by
  unfold State.decodePipeline
  rw [if_neg (by simp [h])]
  unfold State.decodeAttempt
  rw [if_pos (by exact hn)]
  simp only [State.rejectBytes, State.emit, State.invalidateResults, List.append_assoc]
  rfl

/-- The pipeline on an attempt it decodes (44_packet_framer.md R210 to R216). -/
theorem State.decodePipeline_of_fits (s : State) (h : s.rawOvf = false)
    (hn : wholeBytes s.raw s.syncScan.dstart ≤ s.cfg.decCap) :
    s.decodePipeline =
      { s.syncScan with
        rxDone := true, decOvf := false, dec := s.attemptBytes
        rxcrcRecv := parseRecv s.attemptBytes, rxcrcCalc := parseCalc s.cfg s.attemptBytes
        crcOk := parseCrcOk s.cfg s.attemptBytes, plen := parsePlen s.attemptBytes
        lenOk := parseLenOk s.cfg s.attemptBytes
        recValid := parseCrcOk s.cfg s.attemptBytes && parseLenOk s.cfg s.attemptBytes
        trace := s.trace ++ s.decodedEvent :: parseEvents s.cfg s.attemptBytes
        draws := if s.cfg.manPolicy = .draw
          then s.draws + wholeBytes s.raw s.syncScan.dstart else s.draws } := by
  unfold State.decodePipeline
  rw [if_neg (by simp [h])]
  unfold State.decodeAttempt
  rw [if_neg (by exact Nat.not_lt.mpr hn)]
  unfold State.acceptBytes
  rw [State.useDraws_eq]
  unfold State.parse State.emit
  simp only [List.append_assoc]
  rfl

/-- The part of the state the decode pipeline may write, over the rest taken from `s`. -/
theorem State.decodePipeline_frame (s : State) :
    ∃ t : State, s.decodePipeline =
      { s with syncSr := t.syncSr, dstart := t.dstart, syncFound := t.syncFound, dec := t.dec
               decOvf := t.decOvf, rxcrcCalc := t.rxcrcCalc, rxcrcRecv := t.rxcrcRecv
               plen := t.plen, crcOk := t.crcOk, lenOk := t.lenOk, recValid := t.recValid
               rxDone := true, trace := t.trace, draws := t.draws } := by
  refine ⟨s.decodePipeline, ?_⟩
  rcases Bool.eq_false_or_eq_true s.rawOvf with h | h
  · rw [s.decodePipeline_of_rawOvf h]
  · by_cases hn : s.cfg.decCap < wholeBytes s.raw s.syncScan.dstart
    · rw [s.decodePipeline_of_decOvf h hn]; rfl
    · rw [s.decodePipeline_of_fits h (Nat.not_lt.mp hn)]; rfl

/-- The pipeline appends to the trace. -/
theorem State.decodePipeline_trace (s : State) : ∃ es, s.decodePipeline.trace = s.trace ++ es := by
  rcases Bool.eq_false_or_eq_true s.rawOvf with h | h
  · rw [s.decodePipeline_of_rawOvf h]; exact ⟨_, rfl⟩
  · by_cases hn : s.cfg.decCap < wholeBytes s.raw s.syncScan.dstart
    · rw [s.decodePipeline_of_decOvf h hn]; exact ⟨_, rfl⟩
    · rw [s.decodePipeline_of_fits h (Nat.not_lt.mp hn)]; exact ⟨_, rfl⟩

/-- The pipeline decodes one byte per 16 raw bits after DSTART (44_packet_framer.md R211). -/
@[simp] theorem decodeBytes_length (policy : ManPolicy) (n : Nat) (raw : List Bool) (d : Half)
    (nb : Nat) : (decodeBytes policy n raw d nb).length = nb := by
  simp [decodeBytes]

/-- Every command answers a next state (60_exceptions.md R260, R276). -/
theorem exec_next (i : Instr) (s : State) : ∃ t, exec i s = .next t := by
  cases i <;> exact ⟨_, rfl⟩

/-- Taking an input answers a next state. -/
theorem takeInput_next (x : Input) (s : State) : ∃ t, takeInput x s = .next t := by
  cases x with
  | rst => exact ⟨_, rfl⟩
  | cmd w =>
    simp only [takeInput]
    cases decode w with
    | ok i => exact exec_next i s
    | error _ => exact ⟨_, rfl⟩

/-- Everything a step that answers a next state can have done. -/
theorem step_cases {s t : State} (h : step s = .next t) :
    s.cfg.WellFormed ∧
      ((s.inputs = [] ∧ t = s) ∨
       (∃ rest, s.inputs = .rst :: rest ∧ t = { s with inputs := rest }.resetState) ∨
       (∃ w e rest, s.inputs = .cmd w :: rest ∧ decode w = .error e ∧
          t = { s with inputs := rest }.commandError) ∨
       (∃ w i rest, s.inputs = .cmd w :: rest ∧ decode w = .ok i ∧
          exec i { s with inputs := rest } = .next t)) := by
  unfold step fetch at h
  split at h
  case isFalse => cases h
  case isTrue hc =>
    refine ⟨hc, ?_⟩
    cases hi : s.inputs with
    | nil => simp only [hi] at h; cases h; exact .inl ⟨rfl, rfl⟩
    | cons x rest =>
      simp only [hi] at h
      cases x with
      | rst => cases h; exact .inr (.inl ⟨rest, rfl, rfl⟩)
      | cmd w =>
        simp only [takeInput] at h
        cases hd : decode w with
        | error e =>
          simp only [hd] at h; cases h
          exact .inr (.inr (.inl ⟨w, e, rest, rfl, hd, rfl⟩))
        | ok i =>
          simp only [hd] at h
          exact .inr (.inr (.inr ⟨w, i, rest, rfl, hd, h⟩))

/-- `crc16` of the empty sequence (40_crc.md R101). -/
@[simp] theorem crc16_nil (cfg : Config) (seed : Half) : crc16 cfg seed [] = seed ^^^ cfg.crcXorout := rfl

/-- `crc16` takes its bytes in order (40_crc.md R101). -/
theorem crc16_cons (cfg : Config) (seed : Half) (b : Byte) (s : List Byte) :
    crc16 cfg seed (b :: s) = crc16 cfg (crcUpdate cfg seed b) s := rfl

/-- A frame is 6 bytes longer than its payload (44_packet_framer.md R191). -/
@[simp] theorem frame_length (cfg : Config) (p : List Byte) : (frame cfg p).length = p.length + 6 := by
  simp [frame]

/-- One byte is 16 line bits (44_packet_framer.md R192). -/
@[simp] theorem byteLine_length (b : Byte) : (byteLine b).length = 16 := by simp [byteLine]

/-- A frame of n bytes is 16·n line bits (44_packet_framer.md R192). -/
@[simp] theorem lineImage_length (f : List Byte) : (lineImage f).length = 16 * f.length := by
  induction f with
  | nil => rfl
  | cons b f ih =>
    have : lineImage (b :: f) = byteLine b ++ lineImage f := rfl
    rw [this, List.length_append, ih]; simp; omega

/-! ### What the operations with branches leave alone -/

section rawPush
variable (s : State) (x : Bool)

@[simp] theorem State.rawPush_cfg : (s.rawPush x).cfg = s.cfg := by rw [State.rawPush_eq]
@[simp] theorem State.rawPush_crc : (s.rawPush x).crc = s.crc := by rw [State.rawPush_eq]
@[simp] theorem State.rawPush_menc : (s.rawPush x).menc = s.menc := by rw [State.rawPush_eq]
@[simp] theorem State.rawPush_mdec : (s.rawPush x).mdec = s.mdec := by rw [State.rawPush_eq]
@[simp] theorem State.rawPush_plvl : (s.rawPush x).plvl = s.plvl := by rw [State.rawPush_eq]
@[simp] theorem State.rawPush_pcnt : (s.rawPush x).pcnt = s.pcnt := by rw [State.rawPush_eq]
@[simp] theorem State.rawPush_syncSr : (s.rawPush x).syncSr = s.syncSr := by rw [State.rawPush_eq]
@[simp] theorem State.rawPush_dstart : (s.rawPush x).dstart = s.dstart := by rw [State.rawPush_eq]
@[simp] theorem State.rawPush_syncFound : (s.rawPush x).syncFound = s.syncFound := by rw [State.rawPush_eq]
@[simp] theorem State.rawPush_dec : (s.rawPush x).dec = s.dec := by rw [State.rawPush_eq]
@[simp] theorem State.rawPush_decOvf : (s.rawPush x).decOvf = s.decOvf := by rw [State.rawPush_eq]
@[simp] theorem State.rawPush_rxcrcCalc : (s.rawPush x).rxcrcCalc = s.rxcrcCalc := by rw [State.rawPush_eq]
@[simp] theorem State.rawPush_rxcrcRecv : (s.rawPush x).rxcrcRecv = s.rxcrcRecv := by rw [State.rawPush_eq]
@[simp] theorem State.rawPush_plen : (s.rawPush x).plen = s.plen := by rw [State.rawPush_eq]
@[simp] theorem State.rawPush_crcOk : (s.rawPush x).crcOk = s.crcOk := by rw [State.rawPush_eq]
@[simp] theorem State.rawPush_lenOk : (s.rawPush x).lenOk = s.lenOk := by rw [State.rawPush_eq]
@[simp] theorem State.rawPush_recValid : (s.rawPush x).recValid = s.recValid := by rw [State.rawPush_eq]
@[simp] theorem State.rawPush_txp : (s.rawPush x).txp = s.txp := by rw [State.rawPush_eq]
@[simp] theorem State.rawPush_txOvf : (s.rawPush x).txOvf = s.txOvf := by rw [State.rawPush_eq]
@[simp] theorem State.rawPush_fbuf : (s.rawPush x).fbuf = s.fbuf := by rw [State.rawPush_eq]
@[simp] theorem State.rawPush_txbyte : (s.rawPush x).txbyte = s.txbyte := by rw [State.rawPush_eq]
@[simp] theorem State.rawPush_txhalf : (s.rawPush x).txhalf = s.txhalf := by rw [State.rawPush_eq]
@[simp] theorem State.rawPush_txBusy : (s.rawPush x).txBusy = s.txBusy := by rw [State.rawPush_eq]
@[simp] theorem State.rawPush_txOut : (s.rawPush x).txOut = s.txOut := by rw [State.rawPush_eq]
@[simp] theorem State.rawPush_cmdErr : (s.rawPush x).cmdErr = s.cmdErr := by rw [State.rawPush_eq]
@[simp] theorem State.rawPush_rxDone : (s.rawPush x).rxDone = s.rxDone := by rw [State.rawPush_eq]
@[simp] theorem State.rawPush_trace : (s.rawPush x).trace = s.trace := by rw [State.rawPush_eq]
@[simp] theorem State.rawPush_inputs : (s.rawPush x).inputs = s.inputs := by rw [State.rawPush_eq]
@[simp] theorem State.rawPush_draws : (s.rawPush x).draws = s.draws := by rw [State.rawPush_eq]

end rawPush

section txPush
variable (s : State) (b : Byte)

@[simp] theorem State.txPush_cfg : (s.txPush b).cfg = s.cfg := by rw [State.txPush_eq]
@[simp] theorem State.txPush_crc : (s.txPush b).crc = s.crc := by rw [State.txPush_eq]
@[simp] theorem State.txPush_menc : (s.txPush b).menc = s.menc := by rw [State.txPush_eq]
@[simp] theorem State.txPush_mdec : (s.txPush b).mdec = s.mdec := by rw [State.txPush_eq]
@[simp] theorem State.txPush_plvl : (s.txPush b).plvl = s.plvl := by rw [State.txPush_eq]
@[simp] theorem State.txPush_pcnt : (s.txPush b).pcnt = s.pcnt := by rw [State.txPush_eq]
@[simp] theorem State.txPush_raw : (s.txPush b).raw = s.raw := by rw [State.txPush_eq]
@[simp] theorem State.txPush_rawOvf : (s.txPush b).rawOvf = s.rawOvf := by rw [State.txPush_eq]
@[simp] theorem State.txPush_syncSr : (s.txPush b).syncSr = s.syncSr := by rw [State.txPush_eq]
@[simp] theorem State.txPush_dstart : (s.txPush b).dstart = s.dstart := by rw [State.txPush_eq]
@[simp] theorem State.txPush_syncFound : (s.txPush b).syncFound = s.syncFound := by rw [State.txPush_eq]
@[simp] theorem State.txPush_dec : (s.txPush b).dec = s.dec := by rw [State.txPush_eq]
@[simp] theorem State.txPush_decOvf : (s.txPush b).decOvf = s.decOvf := by rw [State.txPush_eq]
@[simp] theorem State.txPush_rxcrcCalc : (s.txPush b).rxcrcCalc = s.rxcrcCalc := by rw [State.txPush_eq]
@[simp] theorem State.txPush_rxcrcRecv : (s.txPush b).rxcrcRecv = s.rxcrcRecv := by rw [State.txPush_eq]
@[simp] theorem State.txPush_plen : (s.txPush b).plen = s.plen := by rw [State.txPush_eq]
@[simp] theorem State.txPush_crcOk : (s.txPush b).crcOk = s.crcOk := by rw [State.txPush_eq]
@[simp] theorem State.txPush_lenOk : (s.txPush b).lenOk = s.lenOk := by rw [State.txPush_eq]
@[simp] theorem State.txPush_recValid : (s.txPush b).recValid = s.recValid := by rw [State.txPush_eq]
@[simp] theorem State.txPush_fbuf : (s.txPush b).fbuf = s.fbuf := by rw [State.txPush_eq]
@[simp] theorem State.txPush_txbyte : (s.txPush b).txbyte = s.txbyte := by rw [State.txPush_eq]
@[simp] theorem State.txPush_txhalf : (s.txPush b).txhalf = s.txhalf := by rw [State.txPush_eq]
@[simp] theorem State.txPush_txBusy : (s.txPush b).txBusy = s.txBusy := by rw [State.txPush_eq]
@[simp] theorem State.txPush_txOut : (s.txPush b).txOut = s.txOut := by rw [State.txPush_eq]
@[simp] theorem State.txPush_cmdErr : (s.txPush b).cmdErr = s.cmdErr := by rw [State.txPush_eq]
@[simp] theorem State.txPush_rxDone : (s.txPush b).rxDone = s.rxDone := by rw [State.txPush_eq]
@[simp] theorem State.txPush_inputs : (s.txPush b).inputs = s.inputs := by rw [State.txPush_eq]
@[simp] theorem State.txPush_draws : (s.txPush b).draws = s.draws := by rw [State.txPush_eq]

end txPush

section useDraws
variable (s : State) (n : Nat)

@[simp] theorem State.useDraws_cfg : (s.useDraws n).cfg = s.cfg := by rw [State.useDraws_eq]
@[simp] theorem State.useDraws_crc : (s.useDraws n).crc = s.crc := by rw [State.useDraws_eq]
@[simp] theorem State.useDraws_menc : (s.useDraws n).menc = s.menc := by rw [State.useDraws_eq]
@[simp] theorem State.useDraws_mdec : (s.useDraws n).mdec = s.mdec := by rw [State.useDraws_eq]
@[simp] theorem State.useDraws_plvl : (s.useDraws n).plvl = s.plvl := by rw [State.useDraws_eq]
@[simp] theorem State.useDraws_pcnt : (s.useDraws n).pcnt = s.pcnt := by rw [State.useDraws_eq]
@[simp] theorem State.useDraws_raw : (s.useDraws n).raw = s.raw := by rw [State.useDraws_eq]
@[simp] theorem State.useDraws_rawOvf : (s.useDraws n).rawOvf = s.rawOvf := by rw [State.useDraws_eq]
@[simp] theorem State.useDraws_syncSr : (s.useDraws n).syncSr = s.syncSr := by rw [State.useDraws_eq]
@[simp] theorem State.useDraws_dstart : (s.useDraws n).dstart = s.dstart := by rw [State.useDraws_eq]
@[simp] theorem State.useDraws_syncFound : (s.useDraws n).syncFound = s.syncFound := by rw [State.useDraws_eq]
@[simp] theorem State.useDraws_dec : (s.useDraws n).dec = s.dec := by rw [State.useDraws_eq]
@[simp] theorem State.useDraws_decOvf : (s.useDraws n).decOvf = s.decOvf := by rw [State.useDraws_eq]
@[simp] theorem State.useDraws_rxcrcCalc : (s.useDraws n).rxcrcCalc = s.rxcrcCalc := by rw [State.useDraws_eq]
@[simp] theorem State.useDraws_rxcrcRecv : (s.useDraws n).rxcrcRecv = s.rxcrcRecv := by rw [State.useDraws_eq]
@[simp] theorem State.useDraws_plen : (s.useDraws n).plen = s.plen := by rw [State.useDraws_eq]
@[simp] theorem State.useDraws_crcOk : (s.useDraws n).crcOk = s.crcOk := by rw [State.useDraws_eq]
@[simp] theorem State.useDraws_lenOk : (s.useDraws n).lenOk = s.lenOk := by rw [State.useDraws_eq]
@[simp] theorem State.useDraws_recValid : (s.useDraws n).recValid = s.recValid := by rw [State.useDraws_eq]
@[simp] theorem State.useDraws_txp : (s.useDraws n).txp = s.txp := by rw [State.useDraws_eq]
@[simp] theorem State.useDraws_txOvf : (s.useDraws n).txOvf = s.txOvf := by rw [State.useDraws_eq]
@[simp] theorem State.useDraws_fbuf : (s.useDraws n).fbuf = s.fbuf := by rw [State.useDraws_eq]
@[simp] theorem State.useDraws_txbyte : (s.useDraws n).txbyte = s.txbyte := by rw [State.useDraws_eq]
@[simp] theorem State.useDraws_txhalf : (s.useDraws n).txhalf = s.txhalf := by rw [State.useDraws_eq]
@[simp] theorem State.useDraws_txBusy : (s.useDraws n).txBusy = s.txBusy := by rw [State.useDraws_eq]
@[simp] theorem State.useDraws_txOut : (s.useDraws n).txOut = s.txOut := by rw [State.useDraws_eq]
@[simp] theorem State.useDraws_cmdErr : (s.useDraws n).cmdErr = s.cmdErr := by rw [State.useDraws_eq]
@[simp] theorem State.useDraws_rxDone : (s.useDraws n).rxDone = s.rxDone := by rw [State.useDraws_eq]
@[simp] theorem State.useDraws_trace : (s.useDraws n).trace = s.trace := by rw [State.useDraws_eq]
@[simp] theorem State.useDraws_inputs : (s.useDraws n).inputs = s.inputs := by rw [State.useDraws_eq]

end useDraws

section decodePipeline
variable (s : State)

@[simp] theorem State.decodePipeline_cfg : s.decodePipeline.cfg = s.cfg := by
  obtain ⟨t, h⟩ := s.decodePipeline_frame; rw [h]
@[simp] theorem State.decodePipeline_crc : s.decodePipeline.crc = s.crc := by
  obtain ⟨t, h⟩ := s.decodePipeline_frame; rw [h]
@[simp] theorem State.decodePipeline_menc : s.decodePipeline.menc = s.menc := by
  obtain ⟨t, h⟩ := s.decodePipeline_frame; rw [h]
@[simp] theorem State.decodePipeline_mdec : s.decodePipeline.mdec = s.mdec := by
  obtain ⟨t, h⟩ := s.decodePipeline_frame; rw [h]
@[simp] theorem State.decodePipeline_plvl : s.decodePipeline.plvl = s.plvl := by
  obtain ⟨t, h⟩ := s.decodePipeline_frame; rw [h]
@[simp] theorem State.decodePipeline_pcnt : s.decodePipeline.pcnt = s.pcnt := by
  obtain ⟨t, h⟩ := s.decodePipeline_frame; rw [h]
@[simp] theorem State.decodePipeline_raw : s.decodePipeline.raw = s.raw := by
  obtain ⟨t, h⟩ := s.decodePipeline_frame; rw [h]
@[simp] theorem State.decodePipeline_rawOvf : s.decodePipeline.rawOvf = s.rawOvf := by
  obtain ⟨t, h⟩ := s.decodePipeline_frame; rw [h]
@[simp] theorem State.decodePipeline_txp : s.decodePipeline.txp = s.txp := by
  obtain ⟨t, h⟩ := s.decodePipeline_frame; rw [h]
@[simp] theorem State.decodePipeline_txOvf : s.decodePipeline.txOvf = s.txOvf := by
  obtain ⟨t, h⟩ := s.decodePipeline_frame; rw [h]
@[simp] theorem State.decodePipeline_fbuf : s.decodePipeline.fbuf = s.fbuf := by
  obtain ⟨t, h⟩ := s.decodePipeline_frame; rw [h]
@[simp] theorem State.decodePipeline_txbyte : s.decodePipeline.txbyte = s.txbyte := by
  obtain ⟨t, h⟩ := s.decodePipeline_frame; rw [h]
@[simp] theorem State.decodePipeline_txhalf : s.decodePipeline.txhalf = s.txhalf := by
  obtain ⟨t, h⟩ := s.decodePipeline_frame; rw [h]
@[simp] theorem State.decodePipeline_txBusy : s.decodePipeline.txBusy = s.txBusy := by
  obtain ⟨t, h⟩ := s.decodePipeline_frame; rw [h]
@[simp] theorem State.decodePipeline_txOut : s.decodePipeline.txOut = s.txOut := by
  obtain ⟨t, h⟩ := s.decodePipeline_frame; rw [h]
@[simp] theorem State.decodePipeline_cmdErr : s.decodePipeline.cmdErr = s.cmdErr := by
  obtain ⟨t, h⟩ := s.decodePipeline_frame; rw [h]
@[simp] theorem State.decodePipeline_inputs : s.decodePipeline.inputs = s.inputs := by
  obtain ⟨t, h⟩ := s.decodePipeline_frame; rw [h]
@[simp] theorem State.decodePipeline_rxDone : s.decodePipeline.rxDone = true := by
  obtain ⟨t, h⟩ := s.decodePipeline_frame; rw [h]

end decodePipeline

end Sys2Proof.Machine
end

