-- ==== Sys2Proof/Laws/Bits.lean ====
section
/-! SUPPORT. The bits of the words that the codec and the flags build, the line bits of a frame, and
how runs of commands and the sync scan compose. -/

namespace Sys2Proof

/-- A word with one bit placed in it. -/
theorem getLsbD_bitAt (n : Nat) (b : Bool) (i j : Nat) (h : j < n) :
    (bitAt n b i).getLsbD j = (b && decide (j = i)) := by
  simp only [bitAt, BitVec.getLsbD_shiftLeft, BitVec.getLsbD_setWidth, BitVec.getLsbD_ofBool]
  by_cases hji : j = i
  · subst hji; simp [h]; omega
  · by_cases hl : j < i
    · simp [hl, hji]
    · have : j - i ≠ 0 := by omega
      simp [this, hji]

end Sys2Proof

namespace Sys2Proof.Machine

/-- Data bit `i` of a decoded word is its pair's (41_manchester.md R123). -/
theorem getLsbD_manDec (policy : ManPolicy) (free : Byte) (w : Half) (i : Nat) (hi : i < 8) :
    (manDec policy free w).getLsbD i =
      pairDec policy (free.getLsbD i) (w.getLsbD (2 * i + 1)) (w.getLsbD (2 * i)) := by
  unfold manDec
  simp only [show List.range 8 = [0, 1, 2, 3, 4, 5, 6, 7] from rfl, List.foldl,
    BitVec.getLsbD_or, getLsbD_bitAt _ _ _ _ hi]
  interval_cases i <;> simp

/-- Data bit `i` of a byte decoded from RAW is its pair's (41_manchester.md R125). -/
theorem getLsbD_manDecRaw (policy : ManPolicy) (free : Byte) (raw : List Bool) (p i : Nat)
    (hi : i < 8) :
    (manDecRaw policy free raw p).getLsbD i =
      pairDec policy (free.getLsbD i) (rawAt raw (p + 2 * (7 - i)))
        (rawAt raw (p + 2 * (7 - i) + 1)) := by
  unfold manDecRaw
  simp only [show List.range 8 = [0, 1, 2, 3, 4, 5, 6, 7] from rfl, List.foldl,
    BitVec.getLsbD_or, getLsbD_bitAt _ _ _ _ hi]
  interval_cases i <;> simp

/-- Line bit `16 * j + k` of a frame is bit `15 - k` of byte `j`'s Manchester word
(44_packet_framer.md R192). -/
theorem getElem?_lineImage (f : List Byte) (j k : Nat) (hj : j < f.length) (hk : k < 16) :
    (lineImage f)[16 * j + k]? = some ((manEnc (byteAt f j)).getLsbD (15 - k)) := by
  induction f generalizing j with
  | nil => simp at hj
  | cons b f ih =>
    have e : lineImage (b :: f) = byteLine b ++ lineImage f := rfl
    rw [e]
    cases j with
    | zero =>
      rw [List.getElem?_append_left (by simp; omega)]
      unfold byteLine
      simp [hk, byteAt]
    | succ j =>
      rw [List.getElem?_append_right (by simp; omega)]
      rw [byteLine_length, show 16 * (j + 1) + k - 16 = 16 * j + k by omega,
        ih j (by simpa using hj)]
      rfl

/-- A run of commands goes on from where its first part ends (70_reset_and_hazards.md R302). -/
theorem runCommands_append {as bs : List Instr} {s t : State} (h : runCommands as s = .next t) :
    runCommands (as ++ bs) s = runCommands bs t := by
  induction as generalizing s with
  | nil => cases h; rfl
  | cons a as ih =>
    obtain ⟨u, hu⟩ := exec_next a s
    simp only [List.cons_append, runCommands, hu] at h ⊢
    exact ih h

/-- A tick counts first (42_pulse_classifier.md R142): PCNT never passes PCNT_MAX. -/
theorem State.countTick_toNat (s : State) :
    s.countTick.pcnt.toNat = min (s.pcnt.toNat + 1) s.cfg.pcntMax.toNat := by
  have := s.cfg.pcntMax.isLt
  simp only [State.countTick, BitVec.toNat_ofNat]
  omega

end Sys2Proof.Machine
end

