-- ==== Sys2Proof/Laws/PerInstr.lean ====
section
/-! SUPPORT. Laws stated per command: what the fields of each command's word are. -/

namespace Sys2Proof.Laws.EncodedFields

/-- The word of a command carries its opcode, a zero RSV and its operand, and the operand leaves
every must-be-zero bit zero (30_encoding.md R80, R82, R83). -/
def Statement (i : Instr) : Prop :=
  opcOf (encode i) = i.mnemonic.opc ∧ rsvOf (encode i) = 0#8 ∧ immOf (encode i) = i.imm ∧
    i.imm &&& i.mnemonic.format.mustBeZero = 0#16

/-- The three fields of a word put together from them. -/
theorem fields_of_append (o r : Byte) (m : Half) :
    opcOf (o ++ r ++ m) = o ∧ rsvOf (o ++ r ++ m) = r ∧ immOf (o ++ r ++ m) = m := by
  refine ⟨?_, ?_, ?_⟩
  all_goals
    apply BitVec.eq_of_getLsbD_eq
    intro j hj
    simp only [opcOf, rsvOf, immOf, BitVec.getLsbD_extractLsb', BitVec.getLsbD_append]
  · have h1 : ¬ (24 + j < 16) := by omega
    have h2 : ¬ (24 + j - 16 < 8) := by omega
    have h3 : 24 + j - 16 - 8 = j := by omega
    simp only [hj, h1, h2, h3, decide_true, if_false, Bool.true_and]
  · have h1 : ¬ (16 + j < 16) := by omega
    have h2 : 16 + j - 16 = j := by omega
    simp only [hj, h1, h2, decide_true, if_false, if_true, Bool.true_and]
  · simp only [hj, Nat.zero_add, decide_true, if_true, Bool.true_and]

/-- A byte operand leaves IMM[15:8] zero. -/
theorem byte_fits (b : Byte) : immOfByte b &&& Format.f8.mustBeZero = 0#16 := by
  revert b; decide

/-- A level operand leaves IMM[15:1] zero. -/
theorem level_fits (l : Bool) : immOfLevel l &&& Format.f1.mustBeZero = 0#16 := by
  revert l; decide

/-- The statement, once the operand is known to fit. -/
theorem of_fits (i : Instr) (h : i.imm &&& i.mnemonic.format.mustBeZero = 0#16) : Statement i :=
  have f := fields_of_append i.mnemonic.opc 0#8 i.imm
  ⟨f.1, f.2.1, f.2.2, h⟩

theorem nop : Statement .nop := of_fits _ (by decide)
theorem crcInit : Statement .crcInit := of_fits _ (by decide)
theorem crcUpd (b : Byte) : Statement (.crcUpd b) := of_fits _ (byte_fits b)
theorem manEnc (b : Byte) : Statement (.manEnc b) := of_fits _ (byte_fits b)
theorem manDec (w : Half) : Statement (.manDec w) := of_fits _ (by simp [Instr.mnemonic, Mnemonic.format, Format.mustBeZero])
theorem rxTick (l : Bool) : Statement (.rxTick l) := of_fits _ (level_fits l)
theorem rxAppend (l : Bool) : Statement (.rxAppend l) := of_fits _ (level_fits l)
theorem rxClear : Statement .rxClear := of_fits _ (by decide)
theorem syncScan : Statement .syncScan := of_fits _ (by decide)
theorem rxDecode : Statement .rxDecode := of_fits _ (by decide)
theorem txBegin : Statement .txBegin := of_fits _ (by decide)
theorem txPush (b : Byte) : Statement (.txPush b) := of_fits _ (byte_fits b)
theorem txBuild : Statement .txBuild := of_fits _ (by decide)
theorem txStep : Statement .txStep := of_fits _ (by decide)
theorem statClr : Statement .statClr := of_fits _ (by decide)
theorem softReset : Statement .softReset := of_fits _ (by decide)

end Sys2Proof.Laws.EncodedFields
end

