-- ==== Sys2Proof/Tests/Slice0.lean ====
section
/-! SUPPORT. Small tests: what is ill formed, decoding of words written out from 30_encoding.md, one
step at a time against the vectors of 95_test_vectors.md, and for each obligation with hypotheses a
concrete case that meets them. -/

open Sys2Proof Sys2Proof.Machine Sys2Proof.Terms

namespace Sys2Proof.Tests

/-- The default parameters. -/
abbrev cfg0 : Config := Config.default

/-- The state after reset. -/
abbrev s0 : State := State.reset

/-- The state a command leaves. -/
def after (i : Instr) (s : State) : State :=
  match exec i s with
  | .next t => t
  | .fault _ => s
  | .refused _ => s

/-- The state one step leaves. -/
def stepped (s : State) : State :=
  match step s with
  | .next t => t
  | .fault _ => s
  | .refused _ => s

/-- A word from its OPC, RSV and IMM, as 30_encoding.md R81 lays them out. -/
def word (opc rsv : Byte) (imm : Half) : Word :=
  (opc.setWidth 32 <<< 24) ||| (rsv.setWidth 32 <<< 16) ||| imm.setWidth 32

/-- Is the word refused for this reason? -/
def illegalAs (e : Illegal) (w : Word) : Bool := decode w == .error e

/-! ### Ill-formed configurations: one for each constraint of 00_scope.md R10 -/

theorem test_default_config_is_well_formed : cfg0.WellFormed := by decide
theorem test_raw_cap_below_512 : ¬ { cfg0 with rawCap := 511 }.WellFormed := by decide
theorem test_dec_cap_below_32 : ¬ { cfg0 with decCap := 31 }.WellFormed := by decide
theorem test_raw_cap_above_window : ¬ { cfg0 with rawCap := 0x8001 }.WellFormed := by decide
theorem test_dec_cap_above_window : ¬ { cfg0 with decCap := 0x1001 }.WellFormed := by decide
theorem test_tx_cap_above_window :
    ¬ { cfg0 with txCap := 0x1000 - 5, lenBias := 0 }.WellFormed := by decide
theorem test_t_noise_zero : ¬ { cfg0 with tNoise := 0 }.WellFormed := by decide
theorem test_t_noise_above_t1_lo : ¬ { cfg0 with tNoise := 14 }.WellFormed := by decide
theorem test_t1_lo_above_t1_hi : ¬ { cfg0 with t1Lo := 18 }.WellFormed := by decide
theorem test_t1_hi_at_t2_lo : ¬ { cfg0 with t1Hi := 29 }.WellFormed := by decide
theorem test_t2_lo_above_t2_hi : ¬ { cfg0 with t2Lo := 36 }.WellFormed := by decide
theorem test_t2_hi_at_pcnt_max : ¬ { cfg0 with t2Hi := 255 }.WellFormed := by decide
theorem test_length_wraps : ¬ { cfg0 with txCap := 253 }.WellFormed := by decide
theorem test_broken_config_is_refused :
    (match step { s0 with cfg := { cfg0 with rawCap := 511 } } with
      | .refused .badConfig => true
      | _ => false) = true := by decide

/-! ### Ill-formed lines: an operand that does not fit (30_encoding.md R88) -/

theorem test_f0_with_operand : AsmLine.wellFormed ⟨.nop, some 0⟩ = false := by decide
theorem test_f1_too_big : AsmLine.wellFormed ⟨.rxTick, some 2⟩ = false := by decide
theorem test_f8_too_big : AsmLine.wellFormed ⟨.txPush, some 256⟩ = false := by decide
theorem test_f16_too_big : AsmLine.wellFormed ⟨.manDec, some 65536⟩ = false := by decide
theorem test_f1_without_operand : AsmLine.wellFormed ⟨.rxAppend, none⟩ = false := by decide
theorem test_f8_without_operand : AsmLine.wellFormed ⟨.crcUpd, none⟩ = false := by decide
theorem test_f16_without_operand : AsmLine.wellFormed ⟨.manDec, none⟩ = false := by decide
theorem test_f1_largest : AsmLine.wellFormed ⟨.rxTick, some 1⟩ = true := by decide
theorem test_f8_largest : AsmLine.wellFormed ⟨.txPush, some 255⟩ = true := by decide
theorem test_f16_largest : AsmLine.wellFormed ⟨.manDec, some 65535⟩ = true := by decide

/-! ### Decoding: each command's word, bit by bit from 30_encoding.md R81 to R83 -/

theorem test_decode_nop : decode 0b00000000_00000000_0000000000000000#32 = .ok .nop := by decide
theorem test_decode_crc_init :
    decode 0b00000001_00000000_0000000000000000#32 = .ok .crcInit := by decide
theorem test_decode_crc_upd :
    decode 0b00000010_00000000_0000000010000001#32 = .ok (.crcUpd 0x81#8) := by decide
theorem test_decode_man_enc :
    decode 0b00010000_00000000_0000000000000011#32 = .ok (.manEnc 0x03#8) := by decide
theorem test_decode_man_dec :
    decode 0b00010001_00000000_1000000000000001#32 = .ok (.manDec 0x8001#16) := by decide
theorem test_decode_rx_tick_high :
    decode 0b00100000_00000000_0000000000000001#32 = .ok (.rxTick true) := by decide
theorem test_decode_rx_tick_low :
    decode 0b00100000_00000000_0000000000000000#32 = .ok (.rxTick false) := by decide
theorem test_decode_rx_append :
    decode 0b00100001_00000000_0000000000000001#32 = .ok (.rxAppend true) := by decide
theorem test_decode_rx_clear :
    decode 0b00100010_00000000_0000000000000000#32 = .ok .rxClear := by decide
theorem test_decode_sync_scan :
    decode 0b00100011_00000000_0000000000000000#32 = .ok .syncScan := by decide
theorem test_decode_rx_decode :
    decode 0b00100100_00000000_0000000000000000#32 = .ok .rxDecode := by decide
theorem test_decode_tx_begin :
    decode 0b00110000_00000000_0000000000000000#32 = .ok .txBegin := by decide
theorem test_decode_tx_push :
    decode 0b00110001_00000000_0000000011011111#32 = .ok (.txPush 0xDF#8) := by decide
theorem test_decode_tx_build :
    decode 0b00110010_00000000_0000000000000000#32 = .ok .txBuild := by decide
theorem test_decode_tx_step :
    decode 0b00110011_00000000_0000000000000000#32 = .ok .txStep := by decide
theorem test_decode_stat_clr :
    decode 0b01110000_00000000_0000000000000000#32 = .ok .statClr := by decide
theorem test_decode_soft_reset :
    decode 0b01111111_00000000_0000000000000000#32 = .ok .softReset := by decide
theorem test_encode_tx_push : encode (.txPush 0xDF#8) = 0x310000DF#32 := by decide

/-- Both ends of every unassigned range of 30_encoding.md R87. -/
theorem test_unassigned_range_ends :
    ([0x03#8, 0x0F#8, 0x12#8, 0x1F#8, 0x25#8, 0x2F#8, 0x34#8, 0x6F#8, 0x71#8, 0x7E#8, 0x80#8,
      0xFF#8].all fun o => illegalAs .unassignedOpc (word o 0#8 0#16)) = true := by decide

/-- The opcodes beside those ranges are assigned. -/
theorem test_assigned_beside_the_ranges :
    ([0x02#8, 0x10#8, 0x11#8, 0x20#8, 0x24#8, 0x30#8, 0x33#8, 0x70#8, 0x7F#8].all fun o =>
      !illegalAs .unassignedOpc (word o 0#8 0#16)) = true := by decide

/-- Every single RSV bit and every single must-be-zero bit is checked (30_encoding.md R82, R84). -/
theorem test_reserved_bits :
    (((List.range 8).all fun k => illegalAs .reservedField (word 0x11#8 (1#8 <<< k) 0xFFFF#16)) &&
      ((List.range 16).all fun k => illegalAs .mustBeZeroBits (word 0x7F#8 0#8 (1#16 <<< k))) &&
      ((List.range 15).all fun k => illegalAs .mustBeZeroBits (word 0x20#8 0#8 (2#16 <<< k))) &&
      ((List.range 8).all fun k => illegalAs .mustBeZeroBits (word 0x31#8 0#8 (0x100#16 <<< k))))
      = true := by decide

theorem test_table_word : decodeTableWord 32 0x310000DF = some (.txPush 0xDF#8) := by decide
theorem test_table_word_too_long : decodeTableWord 40 0x310000DF = none := by decide
theorem test_placed_word_runs :
    (stepped (s0.withFetchWord 32 0x02000031)).crc = 0xC782#16 := by decide

/-! ### The assembler (30_encoding.md R88, R89) -/

theorem test_assemble_hex :
    assembleLine ['T', 'X', '_', 'P', 'U', 'S', 'H', ' ', '0', 'x', 'D', 'F', ' ', ';', 'a'] =
      some [0x310000DF#32] := by decide +kernel
theorem test_assemble_decimal_too_big :
    assembleLine ['R', 'X', '_', 'T', 'I', 'C', 'K', ' ', '2'] = none := by decide +kernel
theorem test_assemble_rx_line :
    assembleLine ['R', 'X', '.', 'L', 'I', 'N', 'E', ' ', '2', ',', ' ', '1', ' ', '0'] =
      some [0x20000001#32, 0x20000001#32, 0x20000000#32, 0x20000000#32] := by decide +kernel
theorem test_assemble_tx_frame :
    (Pseudo.expand (.txFrame 0x41 [0x42])).mapM AsmLine.assemble =
      some [.txBegin, .txPush 0x41#8, .txPush 0x42#8, .txBuild] := by decide

/-! ### One step at a time, against 95_test_vectors.md -/

theorem test_nop : after .nop s0 = s0 := by decide
theorem test_crc_init : (after .crcInit { s0 with crc := 0x1234#16 }).crc = 0xFFFF#16 := by decide
theorem test_crc_upd : (after (.crcUpd 0x31#8) s0).crc = 0xC782#16 := by decide
theorem test_crc_upd_reflected :
    (after (.crcUpd 0x31#8) { s0 with cfg := { cfg0 with crcReflected := true } }).crc = 0x2F8D#16 := by
  decide
theorem test_man_enc : (after (.manEnc 0xDF#8) s0).menc = 0x5955#16 := by decide
theorem test_man_dec : (after (.manDec 0x5A55#16) s0).mdec = 0x30#8 := by decide
theorem test_man_dec_invalid_pairs : (after (.manDec 0x3FFF#16) s0).mdec = 0x7F#8 := by decide
/-- T-CLS-2. -/
theorem test_rx_tick_single :
    let t := after (.rxTick false) { s0 with plvl := true, pcnt := 14#8 }
    t.raw = [false] ∧ t.pcnt = 0#8 ∧ t.plvl = false := by decide
/-- T-CLS-6. -/
theorem test_rx_tick_double_at_the_last_bit :
    let t := after (.rxTick true) { s0 with raw := List.replicate 511 false, pcnt := 29#8 }
    t.raw.length = 512 ∧ t.raw[511]? = some true ∧ t.rawOvf = true := by decide +kernel
theorem test_rx_append :
    (after (.rxAppend true) { s0 with raw := [false, false, false] }).raw =
      [false, false, false, true] := by decide
theorem test_rx_append_full :
    let t := after (.rxAppend false) { s0 with raw := List.replicate 512 true }
    t.raw.length = 512 ∧ t.rawOvf = true := by decide +kernel
theorem test_rx_clear :
    let t := after .rxClear { s0 with raw := List.replicate 200 true, rawOvf := true }
    t.raw = [] ∧ t.rawOvf = false := by decide +kernel

/-- The pattern Q of 95_test_vectors.md section 5. -/
def q : List Bool := [false, true, false, true, true, false, true, false]

/-- T-SYN-2. -/
theorem test_sync_scan_found :
    let t := after .syncScan { s0 with
      raw := List.replicate 5 true ++ q ++ [false, false, true] }
    t.syncSr = 0xA5#8 ∧ t.dstart = 13#16 ∧ t.status = 0x0001#16 := by decide
/-- T-SYN-6. -/
theorem test_sync_scan_none :
    let t := after .syncScan { s0 with raw := q.take 7 }
    t.syncSr = 0x52#8 ∧ t.dstart = 0#16 ∧ t.status = 0#16 := by decide

/-- Raw bits from words, bit 15 first. -/
def bits (ws : List Half) : List Bool :=
  ws.flatMap fun w => (List.range 16).map fun j => w.getLsbD (15 - j)

/-- The raw image of the standard record's frame (95_test_vectors.md P4). -/
def recordRaw : List Bool :=
  bits [0x5555#16, 0x5555#16, 0x555A#16, 0x5595#16, 0x5555#16, 0xA6AA#16, 0x5555#16, 0x995A#16,
    0x5559#16, 0xA655#16, 0x566A#16]

/-- T-PIPE-1. -/
theorem test_rx_decode_record :
    let t := after .rxDecode { s0 with raw := recordRaw }
    t.status = 0x020F#16 ∧ t.trace = [.decoded true 0x30#16 8#16, .crcOk 0x17D0#16,
      .record [0x00#8, 0xDF#8, 0x00#8, 0xA3#8, 0x02#8]] := by decide +kernel
/-- T-PIPE-10. -/
theorem test_rx_decode_bad_trailer :
    let t := after .rxDecode { s0 with raw := recordRaw.set 144 false }
    t.status = 0x0205#16 ∧
      t.trace = [.decoded true 0x30#16 8#16, .crcMismatch 0x17D0#16 0x1750#16] := by
  decide +kernel
/-- T-CLS-7. -/
theorem test_rx_tick_idle_reports_overflow :
    let t := after (.rxTick true) { s0 with
      raw := List.replicate 512 false, rawOvf := true, pcnt := 59#8 }
    t.trace = [.overflow .raw] ∧ t.raw = [] ∧ t.status = 0x0200#16 := by decide +kernel
theorem test_tx_begin :
    let t := after .txBegin { s0 with txp := [1#8], txOvf := true }
    t.txp = [] ∧ t.txOvf = false := by decide
theorem test_tx_push : (after (.txPush 0xDF#8) s0).txp = [0xDF#8] := by decide
/-- T-TX-5. -/
theorem test_tx_push_full :
    let t := after (.txPush 26#8) { s0 with txp := List.replicate 26 0#8 }
    t.txp.length = 26 ∧ t.status = 0x0040#16 ∧ t.trace = [.overflow .tx] := by decide
/-- T-TX-1. -/
theorem test_tx_build :
    (after .txBuild { s0 with txp := [0x00#8, 0xDF#8, 0x00#8, 0xA3#8, 0x02#8] }).fbuf =
      [0x00#8, 0x00#8, 0x03#8, 0x08#8, 0x00#8, 0xDF#8, 0x00#8, 0xA3#8, 0x02#8, 0xD0#8, 0x17#8] := by
  decide +kernel
/-- T-TX-4. -/
theorem test_tx_build_busy :
    (after .txBuild (after .txBuild s0)).status = 0x0180#16 := by decide +kernel

/-- The frame of the empty payload (95_test_vectors.md T-TX-3), being sent. -/
def sending : State :=
  { s0 with fbuf := [0x00#8, 0x00#8, 0x03#8, 0x03#8, 0x93#8, 0xD1#8], txBusy := true }

theorem test_tx_step_first :
    let t := after .txStep sending
    t.txOut = true ∧ t.txbyte = 0#16 ∧ t.txhalf = 1#4 := by decide
theorem test_tx_step_last :
    let t := after .txStep { sending with txbyte := 5#16, txhalf := 15#4 }
    t.txOut = true ∧ t.txbyte = 6#16 ∧ t.txhalf = 0#4 ∧ t.txBusy = false := by decide
/-- T-SYS-2. -/
theorem test_stat_clr :
    (after .statClr { s0 with
      rxDone := true, cmdErr := true, recValid := true, lenOk := true, crcOk := true
      syncFound := true }).status = 0x000F#16 := by decide
/-- T-SYS-3. -/
theorem test_soft_reset :
    let t := after .softReset { sending with
      txbyte := 3#16, txOut := true, crc := 0xC782#16, trace := [.overflow .tx] }
    t = { s0 with trace := [.overflow .tx] } := by decide
/-- T-SYS-7. -/
theorem test_illegal_soft_reset :
    let t := stepped { sending with inputs := [.cmd 0x7F000001#32] }
    t = { sending with cmdErr := true } := by decide
/-- 10_state.md R48: PLVL at bit 8 of 0x0004, a window past its count, an unmapped address. -/
theorem test_read_port :
    { s0 with plvl := true, pcnt := 5#8 }.readPort 0x0004#16 = 0x0105#16 ∧
      { s0 with dec := [0x08#8] }.readPort 0x1000#16 = 0x0008#16 ∧
      { s0 with dec := [0x08#8] }.readPort 0x1001#16 = 0#16 ∧
      { s0 with raw := [true] }.readPort 0x8000#16 = 1#16 ∧
      s0.readPort 0x0011#16 = 0#16 ∧ s0.readPort 0xFFFF#16 = 0#16 := by decide

/-! ### A case that meets the hypotheses of each obligation -/

theorem witness_encode_decode : decode 0x11005A55#32 = .ok (.manDec 0x5A55#16) := by decide
theorem witness_table_row :
    0x310000DF#32 &&& (tableRow .txPush).1 = (tableRow .txPush).2 ∧
      0x310001DF#32 &&& (tableRow .txPush).1 ≠ (tableRow .txPush).2 := by decide
theorem witness_assembled :
    AsmLine.assemble ⟨.rxTick, some 1⟩ = some (.rxTick true) ∧
      AsmLine.assemble ⟨.crcUpd, some 255⟩ = some (.crcUpd 0xFF#8) ∧
      AsmLine.assemble ⟨.manDec, some 65535⟩ = some (.manDec 0xFFFF#16) ∧
      AsmLine.assemble ⟨.nop, none⟩ = some .nop := by decide
theorem witness_step_runs :
    let s := { s0 with inputs := [.cmd 0x02000031#32, .rst] }
    s.cfg.WellFormed ∧ s.inputs = .cmd 0x02000031#32 :: [.rst] ∧
      decode 0x02000031#32 = .ok (.crcUpd 0x31#8) := by decide
theorem witness_placed_command : s0.cfg.WellFormed := by decide
theorem witness_illegal_word :
    let s := { s0 with inputs := [.cmd 0x05000000#32] }
    s.cfg.WellFormed ∧ s.inputs = .cmd 0x05000000#32 :: [] ∧
      decode 0x05000000#32 = .error .unassignedOpc ∧
      decode 0x00010000#32 = .error .reservedField ∧
      decode 0x20000002#32 = .error .mustBeZeroBits := by decide
theorem witness_rst :
    let s := { sending with inputs := [.rst] }
    s.cfg.WellFormed ∧ s.inputs = .rst :: [] := by decide
theorem witness_waiting : s0.cfg.WellFormed ∧ s0.inputs = [] := by decide
theorem witness_invariant : s0.Inv ∧ sending.Inv := ⟨by decide, by decide⟩
/-- Buffers at their capacities and the counter at its end meet the invariant too. -/
theorem witness_invariant_at_capacity :
    State.Inv { s0 with
      raw := List.replicate 512 true, rawOvf := true, txp := List.replicate 26 0#8, txOvf := true
      dec := List.replicate 32 0#8, fbuf := List.replicate 32 0#8, txbyte := 32#16
      pcnt := 255#8, dstart := 512#16 } := by decide +kernel
theorem witness_kept_invariant :
    let s := { sending with inputs := [.cmd 0x33000000#32] }
    s.Inv ∧ step s = .next (stepped s) ∧ (stepped s).Inv := by
  refine ⟨by decide, rfl, by decide⟩

/-- A command whose register changes, for each clause of OnlyNamedCommandsWriteEachRegister. -/
theorem witness_each_register_is_written :
    (after (.crcUpd 0x31#8) s0).crc ≠ s0.crc ∧ (after (.manEnc 3#8) s0).menc ≠ s0.menc ∧
      (after (.manDec 0x555A#16) s0).mdec ≠ s0.mdec ∧
      (after (.rxTick true) { s0 with pcnt := 14#8 }).plvl ≠ s0.plvl ∧
      (after (.rxTick false) s0).pcnt ≠ s0.pcnt ∧ (after (.rxAppend true) s0).raw ≠ s0.raw ∧
      (after .rxClear { s0 with rawOvf := true }).rawOvf ≠ true ∧
      (after .syncScan { s0 with raw := q }).dstart ≠ s0.dstart ∧
      (after .rxDecode { s0 with raw := List.replicate 16 false }).dec ≠ s0.dec ∧
      (after (.txPush 1#8) s0).txp ≠ s0.txp ∧ (after .txBuild s0).fbuf ≠ s0.fbuf ∧
      (after .txStep sending).txhalf ≠ sending.txhalf ∧
      (after .txStep sending).txOut ≠ sending.txOut ∧
      (after .rxDecode s0).trace ≠ s0.trace := by decide +kernel
theorem witness_two_sides :
    exec .rxDecode s0 = .next (after .rxDecode s0) ∧
      Instr.mnemonic .rxDecode ∈ [Mnemonic.rxTick, .rxAppend, .rxClear, .syncScan, .rxDecode] ∧
      exec .txStep sending = .next (after .txStep sending) ∧
      Instr.mnemonic .txStep ∈ [Mnemonic.txBegin, .txPush, .txBuild, .txStep] := by
  refine ⟨rfl, by decide, rfl, by decide⟩
theorem witness_sticky :
    (after .statClr { s0 with cmdErr := true }).cmdErr = false ∧
      (after .softReset { s0 with rxDone := true }).rxDone = false ∧
      (after .txBuild sending).cmdErr = true ∧ sending.cmdErr = false ∧
      (after .rxDecode s0).rxDone = true ∧ s0.rxDone = false := by decide
theorem witness_same_reads :
    let t := { s0 with trace := [.overflow .tx] }
    s0.Inv ∧ t.Inv ∧ s0.cfg = t.cfg ∧ ∀ a, s0.readPort a = t.readPort a := by
  refine ⟨by decide, by decide, rfl, fun _ => rfl⟩
theorem witness_idempotent :
    s0.cfg.manPolicy = .firstSample ∧
      Instr.mnemonic (.manDec 0#16) ∈ [Mnemonic.nop, .crcInit, .manEnc, .manDec, .rxClear,
        .syncScan, .txBegin, .statClr, .softReset] := by decide
theorem witness_only_word :
    0x70000001#32 >>> 24 = 0x70000000#32 >>> 24 ∧ 0x70000001#32 ≠ 0x70000000#32 := by decide
theorem witness_crc_forms :
    s0.cfg.crcReflected = false ∧
      { cfg0 with crcReflected := true }.crcReflected = true ∧
      { cfg0 with crcReflected := true }.crcPoly = 0x1021#16 := by decide
theorem witness_crc_poly : cfg0.crcPoly = 0x1021#16 := by decide
/-- Bits 0 and 7 of a byte, bits 0 and 15 of the CRC: all flips are caught. -/
theorem witness_flips :
    crc16 cfg0 0xFFFF#16 [0x41#8] = 0xB915#16 ∧
      crc16 cfg0 0xFFFF#16 [0x40#8] ≠ 0xB915#16 ∧
      crc16 cfg0 0xFFFF#16 [0xC1#8] ≠ 0xB915#16 := by decide
theorem witness_man_enc_bits :
    (0x80#8).getLsbD 7 = true ∧ (0x80#8).getLsbD 0 = false := by decide
theorem witness_man_dec_pairs :
    (0x8000#16).getLsbD 15 ≠ (0x8000#16).getLsbD 14 ∧
      (0x0001#16).getLsbD 1 ≠ (0x0001#16).getLsbD 0 := by decide
theorem witness_raw_word :
    ∀ j, j < 16 → (0x555A#16).getLsbD (15 - j) = rawAt (bits [0x555A#16]) (0 + j) := by decide
/-- The ends of every band of 42_pulse_classifier.md R143 (95_test_vectors.md S6). -/
theorem witness_bands :
    [1, 4].map (classify cfg0) = [.noise, .noise] ∧
      [13, 17].map (classify cfg0) = [.single, .single] ∧
      [29, 35].map (classify cfg0) = [.double, .double] ∧
      ([5, 12, 18, 28, 36, 255].all fun d => classify cfg0 d == .idle) = true := by decide
theorem witness_held_tick : false = s0.plvl := by decide
theorem witness_noise_tick :
    tickCount { s0 with pcnt := 3#8 } < cfg0.tNoise ∧ true ≠ s0.plvl := by decide
theorem witness_single_ends :
    let s := { s0 with pcnt := 12#8 }
    let t := { s0 with pcnt := 16#8, raw := List.replicate 512 false }
    (s.cfg.WellFormed ∧ true ≠ s.plvl ∧ s.cfg.t1Lo ≤ tickCount s ∧ tickCount s ≤ s.cfg.t1Hi ∧
      s.raw.length < s.cfg.rawCap) ∧
    (t.cfg.WellFormed ∧ true ≠ t.plvl ∧ t.cfg.t1Lo ≤ tickCount t ∧ tickCount t ≤ t.cfg.t1Hi ∧
      t.cfg.rawCap ≤ t.raw.length) := by decide +kernel
theorem witness_double_ends :
    let s := { s0 with pcnt := 28#8, raw := List.replicate 510 false }
    let t := { s0 with pcnt := 34#8, raw := List.replicate 511 false }
    let u := { s0 with pcnt := 34#8, raw := List.replicate 512 false }
    (s.cfg.WellFormed ∧ true ≠ s.plvl ∧ s.cfg.t2Lo ≤ tickCount s ∧ tickCount s ≤ s.cfg.t2Hi ∧
      s.raw.length + 2 ≤ s.cfg.rawCap) ∧
    (true ≠ t.plvl ∧ t.cfg.t2Lo ≤ tickCount t ∧ tickCount t ≤ t.cfg.t2Hi ∧
      t.raw.length + 1 = t.cfg.rawCap) ∧
    (true ≠ u.plvl ∧ tickCount u ≤ u.cfg.t2Hi ∧ u.cfg.rawCap ≤ u.raw.length) := by
  decide +kernel
theorem witness_idle_ends :
    let s := { s0 with pcnt := 4#8, raw := List.replicate 30 false }
    let t := { s0 with pcnt := 27#8, raw := List.replicate 31 false }
    (true ≠ s.plvl ∧ s.cfg.tNoise ≤ tickCount s ∧
      ¬ (s.cfg.t1Lo ≤ tickCount s ∧ tickCount s ≤ s.cfg.t1Hi) ∧
      ¬ (s.cfg.t2Lo ≤ tickCount s ∧ tickCount s ≤ s.cfg.t2Hi) ∧ s.raw.length ≤ s.cfg.trigMin) ∧
    (true ≠ t.plvl ∧ t.cfg.tNoise ≤ tickCount t ∧
      ¬ (t.cfg.t1Lo ≤ tickCount t ∧ tickCount t ≤ t.cfg.t1Hi) ∧
      ¬ (t.cfg.t2Lo ≤ tickCount t ∧ tickCount t ≤ t.cfg.t2Hi) ∧ t.cfg.trigMin < t.raw.length) := by
  decide
theorem witness_held_level : s0.plvl = false ∧ s0.pcnt = 0#8 ∧ 1 ≤ 300 := by decide
theorem witness_append_ends :
    (List.replicate 511 true).length < cfg0.rawCap ∧
      cfg0.rawCap ≤ (List.replicate 512 true).length := by decide +kernel
theorem witness_first_match :
    let s := { s0 with raw := q ++ q }
    7 < s.raw.length ∧ syncSrAfter s (7 + 1) = s.cfg.syncPattern ∧
      (∀ j, j < 7 → syncSrAfter s (j + 1) ≠ s.cfg.syncPattern) ∧ (after .syncScan s).dstart = 8#16 := by
  decide
theorem witness_no_match :
    let s := { s0 with raw := q.take 7 }
    ∀ j, j < s.raw.length → syncSrAfter s (j + 1) ≠ s.cfg.syncPattern := by decide
theorem witness_eight_bits :
    let s := { s0 with raw := q }
    s.cfg.syncSrInit = 0x00#8 ∧ s.cfg.syncPattern = 0xA5#8 ∧ s.raw.length ≤ 0x8000 ∧
      (after .syncScan s).syncFound = true := by decide

/-- T-PIPE-7: 33 bytes for a DEC of 32. -/
def tooMany : State :=
  { s0 with cfg := { cfg0 with rawCap := 1024 }, raw := List.replicate 528 false }

theorem witness_overflows :
    { s0 with rawOvf := true }.rawOvf = true ∧ tooMany.rawOvf = false ∧
      tooMany.cfg.decCap < bytesAfterScan tooMany ∧
      (after .rxDecode tooMany).status = 0x0220#16 ∧
      s0.cfg.rawCap = 512 ∧ s0.cfg.decCap = 32 ∧ s0.raw.length ≤ s0.cfg.rawCap := by
  decide +kernel
/-- Attempts of 8, 2 and 1 whole bytes; the largest that fits DEC; a valid and an invalid pair. -/
theorem witness_decoded_attempts :
    let s := { s0 with raw := recordRaw }
    let t := { s0 with raw := List.replicate 40 true }
    let u := { s0 with raw := bits [0x5555#16] }
    let v := { s0 with raw := List.replicate 512 false }
    (s.rawOvf = false ∧ bytesAfterScan s = 8 ∧ bytesAfterScan s ≤ s.cfg.decCap ∧
      rawAt s.raw 48 ≠ rawAt s.raw 49) ∧
    (bytesAfterScan t = 2 ∧ rawAt t.raw 0 = rawAt t.raw 1 ∧ t.cfg.manPolicy = .firstSample) ∧
    bytesAfterScan u = 1 ∧ bytesAfterScan v = v.cfg.decCap := by decide +kernel
theorem witness_push_ends :
    (List.replicate 25 0#8).length < cfg0.txCap ∧ cfg0.txCap ≤ (List.replicate 26 0#8).length := by
  decide
theorem witness_refused_build :
    sending.txBusy = true ∧ { s0 with txOvf := true }.txOvf = true := by decide
theorem witness_accepted_build : s0.txBusy = false ∧ s0.txOvf = false := by decide
theorem witness_tx_steps :
    let s := { sending with txhalf := 14#4 }
    let t := { sending with txhalf := 15#4, txbyte := 4#16 }
    let u := { sending with txhalf := 15#4, txbyte := 5#16 }
    s0.txBusy = false ∧ (s.txBusy = true ∧ s.txhalf.toNat < 15) ∧
      (t.txhalf.toNat = 15 ∧ (t.txbyte + 1#16).toNat ≠ t.fbuf.length) ∧
      (u.txhalf.toNat = 15 ∧ (u.txbyte + 1#16).toNat = u.fbuf.length) := by decide
theorem witness_line_image :
    sending.txBusy = true ∧ sending.txbyte = 0#16 ∧ sending.txhalf = 0#4 ∧
      sending.fbuf.length ≤ 0x1000 ∧ 1 ≤ 16 * sending.fbuf.length := by decide
/-- The longest payload, the record's length and the empty payload. -/
theorem witness_round_trip :
    cfg0 = defaultBut false 3 .firstSample ∧ (List.replicate 26 0#8).length ≤ 26 ∧
      s0.rawOvf = false ∧
      recordRaw =
        (lineImage (frame cfg0 [0x00#8, 0xDF#8, 0x00#8, 0xA3#8, 0x02#8])).map (!·) := by
  decide +kernel
theorem witness_line_round_trip :
    let s := { s0 with pcnt := 60#8 }
    s.cfg = defaultBut false 3 .firstSample ∧ s.cfg.WellFormed ∧ s.plvl = false ∧
      35 ≤ s.pcnt.toNat ∧ s.raw = [] ∧ s.rawOvf = false ∧ (frameCrc s.cfg []).getLsbD 8 = true ∧
      (frameCrc s.cfg [0x00#8, 0xDF#8, 0x00#8, 0xA3#8, 0x02#8]).getLsbD 8 = true := by
  decide +kernel
theorem witness_interleaving :
    s0.cfg.WellFormed ∧ s0.cfg.manPolicy = .firstSample ∧
      ∀ i ∈ [Instr.txBegin, .txPush 1#8, .txBuild, .txStep, .crcUpd 1#8, .manDec 0#16],
        interleavesFreely i = true := by decide
/-- An interleaving of one host word with one tick. -/
theorem witness_one_interleaving :
    Interleaving (commandInputs [.txBegin]) (tickInputs [true])
      [.cmd (encode (.rxTick true)), .cmd (encode .txBegin)] :=
  .right (.left .done)

end Sys2Proof.Tests
end

section
/-! PROOFS. What a step answers, case by case, and the statements of 00_scope.md. -/

namespace Sys2Proof.Machine

/-! ### One rule per case of a step -/

/-- A configuration that breaks 00_scope.md R10 is refused before any command
(60_exceptions.md R276). -/
theorem step_of_not_wellFormed {s : State} (h : ¬ s.cfg.WellFormed) :
    step s = .refused .badConfig := if_neg h

/-- A step with no input waiting (60_exceptions.md R275). -/
theorem step_of_no_input {s : State} (hc : s.cfg.WellFormed) (hi : s.inputs = []) :
    step s = .next s := by
  rw [step, if_pos hc, fetch, hi]

/-- A step with an input waiting takes the oldest one whole (00_scope.md R15). -/
theorem step_of_input {s : State} {x : Input} {rest : List Input} (hc : s.cfg.WellFormed)
    (hi : s.inputs = x :: rest) : step s = takeInput x { s with inputs := rest } := by
  rw [step, if_pos hc, fetch, hi]

/-- A legal word runs its command (30_encoding.md R84). -/
theorem takeInput_of_decode_ok {w : Word} {i : Instr} (hd : decode w = .ok i) (s : State) :
    takeInput (.cmd w) s = exec i s := by
  rw [takeInput, hd]

/-- A step in a configuration that meets R10 answers a next state (60_exceptions.md R276). -/
theorem step_next {s : State} (hc : s.cfg.WellFormed) : ∃ t, step s = .next t := by
  cases hi : s.inputs with
  | nil => exact ⟨s, step_of_no_input hc hi⟩
  | cons x rest =>
    rw [step_of_input hc hi]
    exact takeInput_next x _

/-- A step is refused for its configuration exactly when that breaks R10. -/
theorem step_eq_badConfig_iff (s : State) :
    step s = .refused .badConfig ↔ ¬ s.cfg.WellFormed := by
  refine ⟨fun hr hc => ?_, step_of_not_wellFormed⟩
  obtain ⟨t, ht⟩ := step_next hc
  rw [ht] at hr
  cases hr

/-! ### The statements -/

/-- Settles O12. `Config.WellFormed` unfolds to the list of constraints the statement writes out,
so the refusal rule is the second half. -/
theorem onlyBrokenConfigurationsAreRefused : Obligations.OnlyBrokenConfigurationsAreRefused :=
  ⟨by decide, step_eq_badConfig_iff⟩

/-- Settles O7: the step takes the oldest word, and a legal word runs its command. -/
theorem stepRunsTheDecodedCommand : Obligations.StepRunsTheDecodedCommand := by
  intro s w rest i hc hi hd
  rw [step_of_input hc hi, takeInput_of_decode_ok hd]

end Sys2Proof.Machine
end

section
/-! PROOFS. What one command can write (10_state.md R22 to R46), and from it the statements on the
report trace, the registers' writers and the sticky flags. -/

namespace Sys2Proof.Machine

/-! ### What the commands with branches can do -/

/-- Everything an RX_TICK can do (42_pulse_classifier.md R151): it counts and then does nothing more,
or ends a SINGLE, a DOUBLE, or an IDLE pulse without or with a run of the pipeline. -/
theorem exec_rxTick_cases {l : Bool} {s t : State} (h : exec (.rxTick l) s = .next t) :
    t = s.countTick ∨
    t = (s.countTick.rawPush l).acceptLevel l ∨
    t = ((s.countTick.rawPush l).rawPush l).acceptLevel l ∨
    t = s.countTick.rawClear.acceptLevel l ∨
    t = s.countTick.decodePipeline.rawClear.acceptLevel l := by
  obtain rfl := Host.Outcome.next.inj h
  by_cases hl : l = s.plvl
  · exact .inl (if_pos hl)
  · rw [if_neg hl, State.transition]
    cases classify s.countTick.cfg s.countTick.pcnt.toNat with
    | noise => exact .inl rfl
    | single => exact .inr (.inl rfl)
    | double => exact .inr (.inr (.inl rfl))
    | idle =>
      dsimp only [State.idleTerminate]
      split
      · exact .inr (.inr (.inr (.inr rfl)))
      · exact .inr (.inr (.inr (.inl rfl)))

/-- Everything a TX_BUILD can do (44_packet_framer.md R195, R200). -/
theorem exec_txBuild_cases {s t : State} (h : exec .txBuild s = .next t) :
    ((s.txBusy = true ∨ s.txOvf = true) ∧ t = s.commandError) ∨
    (s.txBusy = false ∧ s.txOvf = false ∧ t = s.startFrame) := by
  obtain rfl := Host.Outcome.next.inj h
  cases hb : s.txBusy with
  | true => exact .inl ⟨.inl rfl, rfl⟩
  | false =>
    cases ho : s.txOvf with
    | true => exact .inl ⟨.inr rfl, rfl⟩
    | false => exact .inr ⟨rfl, rfl, rfl⟩

/-- Everything a TX_STEP can do (44_packet_framer.md R197, R201): drive the idle level, or drive a
line bit and move on within the byte or to the next byte. -/
theorem exec_txStep_cases {s t : State} (h : exec .txStep s = .next t) :
    (s.txBusy = false ∧ t = { s with txOut := s.cfg.idleLevel }) ∨
    (s.txBusy = true ∧ t = { s with txOut := s.nextLineBit, txhalf := s.txhalf + 1#4 }) ∨
    (s.txBusy = true ∧
      t = { s with
        txOut := s.nextLineBit, txhalf := 0#4, txbyte := s.txbyte + 1#16
        txBusy := !decide ((s.txbyte + 1#16).toNat = s.fbuf.length) }) := by
  obtain rfl := Host.Outcome.next.inj h
  cases hb : s.txBusy with
  | false => exact .inl ⟨rfl, rfl⟩
  | true =>
    refine .inr ?_
    rw [if_pos rfl, State.advanceTx]
    by_cases hh : s.txhalf = 15#4
    · rw [if_pos hh]
      exact .inr ⟨rfl, rfl⟩
    · rw [if_neg hh]
      exact .inl ⟨rfl, rfl⟩

/-! ### The registers a command can write -/

/-- `s` with what a decode attempt may write taken from `u`: RAW, the scan results, the parse results,
RX_DONE, the trace and the count of draws (44_packet_framer.md R210, R220). -/
def withAttemptOf (s u : State) : State :=
  { s with raw := u.raw, rawOvf := u.rawOvf, syncSr := u.syncSr, dstart := u.dstart
           syncFound := u.syncFound, dec := u.dec, decOvf := u.decOvf, rxcrcCalc := u.rxcrcCalc
           rxcrcRecv := u.rxcrcRecv, plen := u.plen, crcOk := u.crcOk, lenOk := u.lenOk
           recValid := u.recValid, rxDone := u.rxDone, trace := u.trace, draws := u.draws }

/-- `s` with what the command `i` may write taken from `u` (10_state.md R22 to R46, R54). -/
def withWrittenBy (i : Instr) (s u : State) : State :=
  match i with
  | .nop => s
  | .crcInit | .crcUpd _ => { s with crc := u.crc }
  | .manEnc _ => { s with menc := u.menc }
  | .manDec _ => { s with mdec := u.mdec, draws := u.draws }
  | .rxTick _ => { withAttemptOf s u with plvl := u.plvl, pcnt := u.pcnt }
  | .rxAppend _ | .rxClear => { s with raw := u.raw, rawOvf := u.rawOvf }
  | .syncScan => { s with syncSr := u.syncSr, dstart := u.dstart, syncFound := u.syncFound }
  | .rxDecode => withAttemptOf s u
  | .txBegin => { s with txp := u.txp, txOvf := u.txOvf }
  | .txPush _ => { s with txp := u.txp, txOvf := u.txOvf, trace := u.trace }
  | .txBuild =>
    { s with fbuf := u.fbuf, txbyte := u.txbyte, txhalf := u.txhalf, txBusy := u.txBusy
             cmdErr := u.cmdErr }
  | .txStep =>
    { s with txbyte := u.txbyte, txhalf := u.txhalf, txBusy := u.txBusy, txOut := u.txOut }
  | .statClr => { s with cmdErr := u.cmdErr, rxDone := u.rxDone }
  | .softReset => { u with cfg := s.cfg, trace := s.trace, inputs := s.inputs, draws := s.draws }

/-- The pipeline writes only what a decode attempt may write. -/
theorem State.decodePipeline_eq_withAttemptOf (s : State) :
    s.decodePipeline = withAttemptOf s s.decodePipeline := by
  obtain ⟨t, h⟩ := s.decodePipeline_frame
  rw [h]
  rfl

/-- The frame of every command: what it leaves is `s` but for the registers it may write. -/
theorem exec_eq_withWrittenBy {i : Instr} {s t : State} (h : exec i s = .next t) :
    t = withWrittenBy i s t := by
  cases i with
  | nop | crcInit | crcUpd | manEnc | rxClear | syncScan | txBegin | statClr | softReset =>
    obtain rfl := Host.Outcome.next.inj h
    rfl
  | manDec w =>
    obtain rfl := Host.Outcome.next.inj h
    rw [State.useDraws_eq]
    rfl
  | rxTick l =>
    obtain rfl | rfl | rfl | rfl | rfl := exec_rxTick_cases h
    · rfl
    · rw [State.rawPush_eq]; rfl
    · rw [State.rawPush_eq, State.rawPush_eq]; rfl
    · rfl
    · rw [State.decodePipeline_eq_withAttemptOf]; rfl
  | rxAppend l =>
    obtain rfl := Host.Outcome.next.inj h
    rw [State.rawPush_eq]
    rfl
  | rxDecode =>
    obtain rfl := Host.Outcome.next.inj h
    rw [State.decodePipeline_eq_withAttemptOf]
    rfl
  | txPush b =>
    obtain rfl := Host.Outcome.next.inj h
    rw [State.txPush_eq]
    rfl
  | txBuild =>
    obtain ⟨-, rfl⟩ | ⟨-, -, rfl⟩ := exec_txBuild_cases h <;> rfl
  | txStep =>
    obtain ⟨-, rfl⟩ | ⟨-, rfl⟩ | ⟨-, rfl⟩ := exec_txStep_cases h <;> rfl

/-- No command changes a parameter (00_scope.md R9). -/
theorem exec_cfg {i : Instr} {s t : State} (h : exec i s = .next t) : t.cfg = s.cfg := by
  rw [exec_eq_withWrittenBy h]
  cases i <;> rfl

/-! ### The report trace -/

/-- A command appends to the report trace (10_state.md R46). -/
theorem exec_trace {i : Instr} {s t : State} (h : exec i s = .next t) :
    ∃ es, t.trace = s.trace ++ es := by
  cases i with
  | rxTick l =>
    obtain rfl | rfl | rfl | rfl | rfl := exec_rxTick_cases h
    case inr.inr.inr.inr => exact s.countTick.decodePipeline_trace
    all_goals exact ⟨[], by simp⟩
  | rxDecode =>
    obtain rfl := Host.Outcome.next.inj h
    exact s.decodePipeline_trace
  | txPush b =>
    obtain rfl := Host.Outcome.next.inj h
    rw [State.txPush_eq]
    dsimp only
    split
    · exact ⟨[], (List.append_nil _).symm⟩
    · exact ⟨_, rfl⟩
  | nop | crcInit | crcUpd | manEnc | manDec | rxAppend | rxClear | syncScan | txBegin | txBuild
  | txStep | statClr | softReset =>
    rw [exec_eq_withWrittenBy h]
    exact ⟨[], (List.append_nil _).symm⟩

/-- Settles O16: of the four things a step can do, only a command writes the trace, and it appends. -/
theorem traceOnlyGrowsAndParametersStay : Obligations.TraceOnlyGrowsAndParametersStay := by
  intro s t h
  obtain ⟨-, ⟨-, rfl⟩ | ⟨rest, -, rfl⟩ | ⟨w, e, rest, -, -, rfl⟩ | ⟨w, i, rest, -, -, he⟩⟩ :=
    step_cases h
  · exact ⟨rfl, [], by simp⟩
  · exact ⟨rfl, [], by simp⟩
  · exact ⟨rfl, [], by simp⟩
  · have hcfg := exec_cfg he
    have htrace := exec_trace he
    exact ⟨hcfg, htrace⟩

/-! ### The writers of each register -/

/-- Settles O17: a register that differs is one of those the frame of the command names. -/
theorem onlyNamedCommandsWriteEachRegister : Obligations.OnlyNamedCommandsWriteEachRegister := by
  intro i s t h
  rw [exec_eq_withWrittenBy h]
  cases i <;> simp [withWrittenBy, withAttemptOf, Instr.mnemonic]

/-! ### The sticky flags -/

/-- A tick never clears RX_DONE (10_state.md R44). -/
theorem exec_rxTick_rxDone {l : Bool} {s t : State} (h : exec (.rxTick l) s = .next t)
    (hd : s.rxDone = true) : t.rxDone = true := by
  obtain rfl | rfl | rfl | rfl | rfl := exec_rxTick_cases h <;> simp [hd]

/-- Settles O19: by the frame, only the five commands named first can write a sticky flag at all. -/
theorem stickyBitsAreClearedOnlyByName : Obligations.StickyBitsAreClearedOnlyByName := by
  intro i s t h
  cases i with
  | statClr | softReset =>
    obtain rfl := Host.Outcome.next.inj h
    simp [State.resetFor]
  | txBuild =>
    obtain ⟨hrefused, rfl⟩ | ⟨-, -, rfl⟩ := exec_txBuild_cases h
    · simp +contextual [hrefused]
    · simp +contextual
  | rxTick l =>
    have hc : t.cmdErr = s.cmdErr := by rw [exec_eq_withWrittenBy h]; rfl
    have hd := exec_rxTick_rxDone h
    simp +contextual [hc, hd, Instr.mnemonic]
  | rxDecode =>
    obtain rfl := Host.Outcome.next.inj h
    simp +contextual [Instr.mnemonic]
  | nop | crcInit | crcUpd | manEnc | manDec | rxAppend | rxClear | syncScan | txBegin | txPush
  | txStep =>
    have hc : t.cmdErr = s.cmdErr := by rw [exec_eq_withWrittenBy h]; rfl
    have hd : t.rxDone = s.rxDone := by rw [exec_eq_withWrittenBy h]; rfl
    simp +contextual [hc, hd]

end Sys2Proof.Machine
end

section
/-! PROOFS. The invariant of 10_state.md R53: each shared operation keeps it, so each command does,
so each step does; and it holds after reset. -/

namespace Sys2Proof.Machine

/-! ### The invariant in its parts -/

/-- What the invariant says of RAW and RAW_OVF. -/
def State.RawInv (s : State) : Prop :=
  s.raw.length ≤ s.cfg.rawCap ∧ (s.rawOvf = true → s.raw.length = s.cfg.rawCap)

/-- What the invariant says of TXP and TX_OVF. -/
def State.TxpInv (s : State) : Prop :=
  s.txp.length ≤ s.cfg.txCap ∧ (s.txOvf = true → s.txp.length = s.cfg.txCap)

/-- What the invariant says of FBUF and the sequencer. -/
def State.SequencerInv (s : State) : Prop :=
  s.fbuf.length ≤ s.cfg.fbCap ∧
  (s.fbuf.length = 0 ∨ 6 ≤ s.fbuf.length) ∧
  s.txbyte.toNat ≤ s.fbuf.length ∧
  (s.txBusy = true → s.txbyte.toNat < s.fbuf.length) ∧
  (s.txBusy = false → s.txhalf = 0#4 ∧ (s.txbyte.toNat = s.fbuf.length ∨ s.txbyte = 0#16))

/-- What the invariant says of the scan and parse results. -/
def State.ResultsInv (s : State) : Prop :=
  s.dec.length ≤ s.cfg.decCap ∧ s.recValid = (s.crcOk && s.lenOk) ∧
  s.dstart.toNat ≤ s.cfg.rawCap

/-- The invariant is its parts, R10 and the bound on PCNT. -/
theorem State.inv_iff (s : State) :
    s.Inv ↔ s.cfg.WellFormed ∧ s.RawInv ∧ s.TxpInv ∧ s.SequencerInv ∧ s.ResultsInv ∧
      s.pcnt.toNat ≤ s.cfg.pcntMax.toNat := by
  constructor
  · rintro ⟨hc, hraw, hdec, htxp, hfb, hmin, hpos, hbusy, hidle, hp, hrec, hd, hrovf, htovf⟩
    exact ⟨hc, ⟨hraw, hrovf⟩, ⟨htxp, htovf⟩, ⟨hfb, hmin, hpos, hbusy, hidle⟩, ⟨hdec, hrec, hd⟩, hp⟩
  · rintro ⟨hc, ⟨hraw, hrovf⟩, ⟨htxp, htovf⟩, ⟨hfb, hmin, hpos, hbusy, hidle⟩, ⟨hdec, hrec, hd⟩, hp⟩
    exact ⟨hc, hraw, hdec, htxp, hfb, hmin, hpos, hbusy, hidle, hp, hrec, hd, hrovf, htovf⟩

/-- The capacities of 00_scope.md R10 keep each buffer within its window of the read port
(10_state.md R48). -/
theorem State.Inv.buffers_fit_windows {s : State} (h : s.Inv) :
    s.raw.length ≤ 0x8000 ∧ s.dec.length ≤ 0x1000 ∧ s.txp.length ≤ 0x1000 ∧
      s.fbuf.length ≤ 0x1000 := by
  obtain ⟨⟨-, -, hrawCap, hdecCap, htxCap, -⟩, ⟨hraw, -⟩, ⟨htxp, -⟩, ⟨hfbuf, -⟩, ⟨hdec, -⟩, -⟩ :=
    s.inv_iff.1 h
  rw [Config.fbCap] at hfbuf
  omega

/-! ### Reset -/

/-- Settles O14: after reset every buffer is empty and every count and flag is 0. -/
theorem resetMeetsTheInvariant : Obligations.ResetMeetsTheInvariant := by
  intro c hc
  refine (State.inv_iff _).2 ⟨hc, ?_, ?_, ?_, ?_, Nat.zero_le _⟩
  · exact ⟨Nat.zero_le _, nofun⟩
  · exact ⟨Nat.zero_le _, nofun⟩
  · exact ⟨Nat.zero_le _, .inl rfl, Nat.le_refl _, nofun, fun _ => ⟨rfl, .inl rfl⟩⟩
  · exact ⟨Nat.zero_le _, rfl, Nat.zero_le _⟩

/-- Both resets lead to the invariant (10_state.md R54): what they keep is no part of it. -/
theorem State.inv_resetState {s : State} (hc : s.cfg.WellFormed) : s.resetState.Inv :=
  resetMeetsTheInvariant s.cfg hc

/-! ### The shared operations -/

/-- `raw_push` (42_pulse_classifier.md R146): a bit is dropped only at capacity. -/
theorem State.Inv.rawPush {s : State} (h : s.Inv) (x : Bool) : (s.rawPush x).Inv := by
  obtain ⟨hc, ⟨hle, hovf⟩, hrest⟩ := s.inv_iff.1 h
  rw [State.rawPush]
  split
  case isTrue hroom =>
    refine (State.inv_iff _).2 ⟨hc, ⟨?_, fun ho => absurd (hovf ho) hroom.ne⟩, hrest⟩
    rw [List.length_append]
    exact hroom
  case isFalse hfull =>
    exact (State.inv_iff _).2 ⟨hc, ⟨hle, fun _ => Nat.le_antisymm hle (Nat.not_lt.1 hfull)⟩, hrest⟩

/-- `tx_push` (44_packet_framer.md R194): a byte is dropped only at capacity. -/
theorem State.Inv.txPush {s : State} (h : s.Inv) (b : Byte) : (s.txPush b).Inv := by
  obtain ⟨hc, hraw, ⟨hle, hovf⟩, hrest⟩ := s.inv_iff.1 h
  rw [State.txPush]
  split
  case isTrue hroom =>
    refine (State.inv_iff _).2 ⟨hc, hraw, ⟨?_, fun ho => absurd (hovf ho) hroom.ne⟩, hrest⟩
    rw [List.length_append]
    exact hroom
  case isFalse hfull =>
    exact (State.inv_iff _).2
      ⟨hc, hraw, ⟨hle, fun _ => Nat.le_antisymm hle (Nat.not_lt.1 hfull)⟩, hrest⟩

/-- `raw_clear` (42_pulse_classifier.md R147). -/
theorem State.Inv.rawClear {s : State} (h : s.Inv) : s.rawClear.Inv := by
  obtain ⟨hc, -, hrest⟩ := s.inv_iff.1 h
  exact (State.inv_iff _).2 ⟨hc, ⟨Nat.zero_le _, nofun⟩, hrest⟩

/-- A tick counts up to PCNT_MAX (42_pulse_classifier.md R142). -/
theorem State.Inv.countTick {s : State} (h : s.Inv) : s.countTick.Inv := by
  obtain ⟨hc, hraw, htxp, hseq, hres, -⟩ := s.inv_iff.1 h
  refine (State.inv_iff _).2 ⟨hc, hraw, htxp, hseq, hres, ?_⟩
  rw [s.countTick_toNat]
  exact Nat.min_le_right _ _

/-- An accepted transition (42_pulse_classifier.md R144). -/
theorem State.Inv.acceptLevel {s : State} (h : s.Inv) (l : Bool) : (s.acceptLevel l).Inv := by
  obtain ⟨hc, hraw, htxp, hseq, hres, -⟩ := s.inv_iff.1 h
  exact (State.inv_iff _).2 ⟨hc, hraw, htxp, hseq, hres, Nat.zero_le _⟩

/-- A scan's DSTART lies within RAW, also as its 16-bit register (44_packet_framer.md R211). -/
theorem State.syncScan_dstart_le (s : State) : s.syncScan.dstart.toNat ≤ s.raw.length :=
  calc s.syncScan.dstart.toNat
    _ = (scanRaw s.cfg s.raw).start % 2 ^ 16 := BitVec.toNat_ofNat ..
    _ ≤ (scanRaw s.cfg s.raw).start := Nat.mod_le _ _
    _ ≤ s.raw.length := scanRaw_start_le s.cfg s.raw

/-- `sync_scan` (43_frame_sync.md R173). -/
theorem State.Inv.syncScan {s : State} (h : s.Inv) : s.syncScan.Inv := by
  obtain ⟨hc, hraw, htxp, hseq, ⟨hdec, hrec, -⟩, hp⟩ := s.inv_iff.1 h
  have hd := Nat.le_trans s.syncScan_dstart_le hraw.1
  exact (State.inv_iff _).2 ⟨hc, hraw, htxp, hseq, ⟨hdec, hrec, hd⟩, hp⟩

/-- The decode pipeline, on each of its paths (44_packet_framer.md R210, R212): DEC is emptied, or
takes as many bytes as fit, and REC_VALID is written with the two bits it is made of. -/
theorem State.Inv.decodePipeline {s : State} (h : s.Inv) : s.decodePipeline.Inv := by
  obtain ⟨hc, hraw, htxp, hseq, ⟨-, -, hd⟩, hp⟩ := s.inv_iff.1 h
  obtain ⟨-, -, -, -, ⟨-, -, hscan⟩, -⟩ := (State.inv_iff _).1 h.syncScan
  rcases Bool.eq_false_or_eq_true s.rawOvf with ho | ho
  · rw [s.decodePipeline_of_rawOvf ho]
    exact (State.inv_iff _).2 ⟨hc, hraw, htxp, hseq, ⟨Nat.zero_le _, rfl, hd⟩, hp⟩
  · rcases Nat.lt_or_ge s.cfg.decCap (wholeBytes s.raw s.syncScan.dstart) with hn | hn
    · rw [s.decodePipeline_of_decOvf ho hn]
      exact (State.inv_iff _).2 ⟨hc, hraw, htxp, hseq, ⟨Nat.zero_le _, rfl, hscan⟩, hp⟩
    · rw [s.decodePipeline_of_fits ho hn]
      have hlen : s.attemptBytes.length ≤ s.cfg.decCap := by rwa [decodeBytes_length]
      exact (State.inv_iff _).2 ⟨hc, hraw, htxp, hseq, ⟨hlen, rfl, hscan⟩, hp⟩

/-- An accepted TX_BUILD (44_packet_framer.md R200): the frame of a bounded TXP fits FBUF. -/
theorem State.Inv.startFrame {s : State} (h : s.Inv) : s.startFrame.Inv := by
  obtain ⟨hc, hraw, htxp, -, hres, hp⟩ := s.inv_iff.1 h
  have hlen : s.startFrame.fbuf.length = s.txp.length + 6 := frame_length ..
  have hseq : s.startFrame.SequencerInv := by
    refine ⟨?_, .inr ?_, Nat.zero_le _, fun _ => ?_, nofun⟩ <;> rw [hlen]
    · exact Nat.add_le_add_right htxp.1 6
    · exact Nat.le_add_left ..
    · exact Nat.succ_pos _
  exact (State.inv_iff _).2 ⟨hc, hraw, htxp, hseq, hres, hp⟩

/-- TX_STEP (44_packet_framer.md R197): TXBYTE moves on only from below FBN, which is small enough for
it not to wrap, and TX_BUSY ends exactly when it gets there. -/
theorem State.Inv.txStep {s t : State} (h : s.Inv) (ht : exec .txStep s = .next t) : t.Inv := by
  obtain ⟨hc, hraw, htxp, ⟨hfb, hmin, hpos, hbusy, hidle⟩, hres, hp⟩ := s.inv_iff.1 h
  have hcap : s.fbuf.length ≤ 0x1000 := h.buffers_fit_windows.2.2.2
  obtain ⟨-, rfl⟩ | ⟨hb, rfl⟩ | ⟨hb, rfl⟩ := exec_txStep_cases ht
  · exact h
  · refine (State.inv_iff _).2 ⟨hc, hraw, htxp, ⟨hfb, hmin, hpos, hbusy, ?_⟩, hres, hp⟩
    exact fun hnot => absurd (hb.symm.trans hnot) nofun
  · have hlt := hbusy hb
    have hnext : (s.txbyte + 1#16).toNat = s.txbyte.toNat + 1 := by
      rw [BitVec.toNat_add, BitVec.toNat_ofNat]
      omega
    refine (State.inv_iff _).2 ⟨hc, hraw, htxp, ⟨hfb, hmin, ?_, fun hmore => ?_, fun hend => ?_⟩,
      hres, hp⟩
    · show (s.txbyte + 1#16).toNat ≤ s.fbuf.length
      omega
    · have : (s.txbyte + 1#16).toNat ≠ s.fbuf.length := by simpa using hmore
      show (s.txbyte + 1#16).toNat < s.fbuf.length
      omega
    · exact ⟨rfl, .inl (by simpa using hend)⟩

/-! ### The commands and the step -/

/-- Every command keeps the invariant. -/
theorem State.Inv.exec {i : Instr} {s t : State} (h : s.Inv) (ht : exec i s = .next t) : t.Inv := by
  cases i with
  | nop | crcInit | crcUpd | manEnc | statClr =>
    obtain rfl := Host.Outcome.next.inj ht
    exact h
  | manDec w =>
    obtain rfl := Host.Outcome.next.inj ht
    rw [State.useDraws_eq]
    exact h
  | rxTick l =>
    have hcount := h.countTick
    obtain rfl | rfl | rfl | rfl | rfl := exec_rxTick_cases ht
    · exact hcount
    · exact (hcount.rawPush l).acceptLevel l
    · exact ((hcount.rawPush l).rawPush l).acceptLevel l
    · exact hcount.rawClear.acceptLevel l
    · exact hcount.decodePipeline.rawClear.acceptLevel l
  | rxAppend l =>
    obtain rfl := Host.Outcome.next.inj ht
    exact h.rawPush l
  | rxClear =>
    obtain rfl := Host.Outcome.next.inj ht
    exact h.rawClear
  | syncScan =>
    obtain rfl := Host.Outcome.next.inj ht
    exact h.syncScan
  | rxDecode =>
    obtain rfl := Host.Outcome.next.inj ht
    exact h.decodePipeline.rawClear
  | txBegin =>
    obtain rfl := Host.Outcome.next.inj ht
    obtain ⟨hc, hraw, -, hrest⟩ := s.inv_iff.1 h
    exact (State.inv_iff _).2 ⟨hc, hraw, ⟨Nat.zero_le _, nofun⟩, hrest⟩
  | txPush b =>
    obtain rfl := Host.Outcome.next.inj ht
    exact h.txPush b
  | txBuild =>
    obtain ⟨-, rfl⟩ | ⟨-, -, rfl⟩ := exec_txBuild_cases ht
    · exact h
    · exact h.startFrame
  | txStep => exact h.txStep ht
  | softReset =>
    obtain rfl := Host.Outcome.next.inj ht
    exact State.inv_resetState h.1

/-- Settles O15: taking an input away is no part of the invariant, and what the input does keeps it. -/
theorem stepKeepsTheInvariant : Obligations.StepKeepsTheInvariant := by
  intro s t h ht
  obtain ⟨hc, ⟨-, rfl⟩ | ⟨rest, -, rfl⟩ | ⟨w, e, rest, -, -, rfl⟩ | ⟨w, i, rest, -, -, he⟩⟩ :=
    step_cases ht
  · exact h
  · exact State.inv_resetState hc
  · exact h
  · exact State.Inv.exec (s := { s with inputs := rest }) h he

end Sys2Proof.Machine
end

section
/-! PROOFS. The reset table (10_state.md R54), and what a host reads: STATUS (R45) and the read port
(R48, R52). -/

namespace Sys2Proof.Machine

/-! ### Both resets -/

/-- `reset_state` leaves the reset table (10_state.md R54). -/
theorem State.resetState_eq_resetTable (s : State) : s.resetState = Terms.resetTable s := rfl

/-- Settles O10: an RST pulse and SOFT_RESET both run `reset_state`. -/
theorem bothResetsLeaveTheResetTable : Obligations.BothResetsLeaveTheResetTable := by
  refine ⟨fun s rest hc hi => ?_, fun s => ?_, rfl, rfl, rfl⟩
  · rw [step_of_input hc hi, ← State.resetState_eq_resetTable]
    rfl
  · rw [← State.resetState_eq_resetTable]
    rfl

/-! ### STATUS -/

/-- Bit `j` of STATUS, as the ten bits placed in it (10_state.md R45). -/
theorem State.getLsbD_status (s : State) {j : Nat} (hj : j < 16) :
    s.status.getLsbD j =
      (s.syncFound && decide (j = 0) || s.crcOk && decide (j = 1) ||
       s.lenOk && decide (j = 2) || s.recValid && decide (j = 3) ||
       s.rawOvf && decide (j = 4) || s.decOvf && decide (j = 5) ||
       s.txOvf && decide (j = 6) || s.txBusy && decide (j = 7) ||
       s.cmdErr && decide (j = 8) || s.rxDone && decide (j = 9)) := by
  simp only [State.status, BitVec.getLsbD_or, getLsbD_bitAt _ _ _ _ hj]

/-- No register lies above bit 9 of STATUS (10_state.md R45). -/
theorem State.getLsbD_status_of_ge (s : State) {k : Nat} (hk : 10 ≤ k) :
    s.status.getLsbD k = false := by
  rcases Nat.lt_or_ge k 16 with hlt | hge
  · have hne : ∀ j, j < 10 → k ≠ j := fun j hj => by omega
    rw [s.getLsbD_status hlt]
    simp [hne]
  · exact BitVec.getLsbD_of_ge _ _ hge

/-- Settles O20: each of the ten places has one register, and the others have none. -/
theorem statusWordLayout : Obligations.StatusWordLayout := by
  intro s
  refine ⟨?_, ?_, ?_, ?_, ?_, ?_, ?_, ?_, ?_, ?_, fun k hk => s.getLsbD_status_of_ge hk⟩
  all_goals
    rw [s.getLsbD_status (by decide)]
    simp

/-! ### The read port's map -/

/-- A one-bit register in bit 0 of a word. -/
theorem bitAt_zero (b : Bool) : bitAt 16 b 0 = if b then 1#16 else 0#16 := by
  cases b <;> rfl

/-- PLVL in bit 8 of its word (10_state.md R48). -/
theorem bitAt_eight (b : Bool) : bitAt 16 b 8 = if b then 0x0100#16 else 0#16 := by
  cases b <;> rfl

/-- An element of a byte buffer as the read port shows it, 0 past the count (10_state.md R48). -/
theorem setWidth_byteAt (buf : List Byte) (i : Nat) :
    (byteAt buf i).setWidth 16 = if h : i < buf.length then (buf[i]).setWidth 16 else 0#16 := by
  rw [byteAt]
  split
  case isTrue h => rw [List.getD_eq_getElem _ _ h]
  case isFalse h => rw [List.getD_eq_default _ _ (Nat.not_lt.1 h)]; rfl

/-- An element of RAW as the read port shows it, 0 past RAWN (10_state.md R48). -/
theorem bitAt_rawAt (buf : List Bool) (i : Nat) :
    bitAt 16 (rawAt buf i) 0 =
      if h : i < buf.length then (if buf[i] then 1#16 else 0#16) else 0#16 := by
  rw [rawAt]
  split
  case isTrue h => rw [List.getD_eq_getElem _ _ h, bitAt_zero]
  case isFalse h => rw [List.getD_eq_default _ _ (Nat.not_lt.1 h)]; rfl

section windows
variable (s : State) {i : Nat}

/-- The window of DEC. -/
theorem State.readPort_decWindow (hi : i < 0x1000) :
    s.readPort (BitVec.ofNat 16 (0x1000 + i)) = (byteAt s.dec i).setWidth 16 := by
  rw [State.readPort, BitVec.toNat_ofNat, Nat.mod_eq_of_lt (by omega)]
  rw [if_neg (by omega), if_pos (by omega), Nat.add_sub_cancel_left]

/-- The window of TXP. -/
theorem State.readPort_txpWindow (hi : i < 0x1000) :
    s.readPort (BitVec.ofNat 16 (0x2000 + i)) = (byteAt s.txp i).setWidth 16 := by
  rw [State.readPort, BitVec.toNat_ofNat, Nat.mod_eq_of_lt (by omega)]
  rw [if_neg (by omega), if_neg (by omega), if_pos (by omega), Nat.add_sub_cancel_left]

/-- The window of FBUF. -/
theorem State.readPort_fbufWindow (hi : i < 0x1000) :
    s.readPort (BitVec.ofNat 16 (0x3000 + i)) = (byteAt s.fbuf i).setWidth 16 := by
  rw [State.readPort, BitVec.toNat_ofNat, Nat.mod_eq_of_lt (by omega)]
  rw [if_neg (by omega), if_neg (by omega), if_neg (by omega), if_pos (by omega),
    Nat.add_sub_cancel_left]

/-- The window of RAW. -/
theorem State.readPort_rawWindow (hi : i < 0x8000) :
    s.readPort (BitVec.ofNat 16 (0x8000 + i)) = bitAt 16 (rawAt s.raw i) 0 := by
  rw [State.readPort, BitVec.toNat_ofNat, Nat.mod_eq_of_lt (by omega)]
  rw [if_neg (by omega), if_neg (by omega), if_neg (by omega), if_neg (by omega),
    if_neg (by omega), Nat.add_sub_cancel_left]

end windows

/-- No scalar register lies past 0x0010. -/
theorem State.scalarRead_of_ge (s : State) {n : Nat} (h : 0x0011 ≤ n) : s.scalarRead n = 0#16 := by
  obtain ⟨k, rfl⟩ := Nat.exists_eq_add_of_le' h
  rfl

/-- Every address outside the scalar registers and the four windows reads 0. -/
theorem State.readPort_unmapped (s : State) {a : Half}
    (h : (0x0011 ≤ a.toNat ∧ a.toNat < 0x1000) ∨ (0x4000 ≤ a.toNat ∧ a.toNat < 0x8000)) :
    s.readPort a = 0#16 := by
  rw [State.readPort]
  rcases h with ⟨hge, hlt⟩ | ⟨hge, hlt⟩
  · rw [if_pos hlt, s.scalarRead_of_ge hge]
  · rw [if_neg (by omega), if_neg (by omega), if_neg (by omega), if_neg (by omega), if_pos hlt]

/-- Settles O21: the scalar registers by the table of the read port, the rest window by window. -/
theorem readPortMap : Obligations.ReadPortMap := by
  intro s
  refine ⟨rfl, rfl, rfl, rfl, congrArg (· ||| _) (bitAt_eight s.plvl), rfl, rfl, rfl, rfl, rfl, rfl,
    rfl, rfl, rfl, rfl, rfl, bitAt_zero s.txOut, fun i hi => ?_, fun i hi => ?_, fun i hi => ?_,
    fun i hi => ?_, fun a ha => s.readPort_unmapped ha⟩
  · rw [s.readPort_decWindow hi, setWidth_byteAt]
  · rw [s.readPort_txpWindow hi, setWidth_byteAt]
  · rw [s.readPort_fbufWindow hi, setWidth_byteAt]
  · rw [s.readPort_rawWindow hi, bitAt_rawAt]

/-! ### What the read port shows of the state -/

/-- Extending a word keeps it apart from every other. -/
theorem eq_of_setWidth_eq {n m : Nat} (hnm : n ≤ m) {x y : BitVec n}
    (h : x.setWidth m = y.setWidth m) : x = y := by
  have := congrArg (BitVec.setWidth n) h
  rwa [BitVec.setWidth_setWidth_of_le _ hnm, BitVec.setWidth_setWidth_of_le _ hnm,
    BitVec.setWidth_eq, BitVec.setWidth_eq] at this

/-- A one-bit register is read back from bit 0. -/
theorem eq_of_bitAt_zero_eq {a b : Bool} (h : bitAt 16 a 0 = bitAt 16 b 0) : a = b := by
  revert a b
  decide

/-- PLVL and PCNT are read back from the word they share (10_state.md R48). -/
theorem eq_of_levelCount_eq {a b : Bool} {x y : Byte}
    (h : bitAt 16 a 8 ||| x.setWidth 16 = bitAt 16 b 8 ||| y.setWidth 16) : a = b ∧ x = y := by
  constructor
  · have hbit := congrArg (·.getLsbD 8) h
    simp only [BitVec.getLsbD_or, getLsbD_bitAt 16 _ 8 8 (by decide)] at hbit
    simpa using hbit
  · refine BitVec.eq_of_getLsbD_eq fun i hi => ?_
    have hi16 : i < 16 := by omega
    have hbit := congrArg (·.getLsbD i) h
    simp only [BitVec.getLsbD_or, getLsbD_bitAt 16 _ 8 i hi16] at hbit
    simpa [hi, hi16, Nat.ne_of_lt hi] using hbit

/-- A count is read back from its 16-bit register (log 12, DEDUCED). -/
theorem eq_of_countWord_eq {n m : Nat} (hn : n ≤ 0x8000) (hm : m ≤ 0x8000)
    (h : countWord n = countWord m) : n = m := by
  have := congrArg BitVec.toNat h
  simp only [countWord, BitVec.toNat_ofNat] at this
  omega

/-- Two lists of one length that read alike below it are equal. -/
theorem eq_of_getD_eq {α : Type} {xs ys : List α} (d : α) (hl : xs.length = ys.length)
    (h : ∀ i, i < xs.length → xs.getD i d = ys.getD i d) : xs = ys := by
  refine List.ext_getElem hl fun i hx hy => ?_
  rw [← List.getD_eq_getElem xs d hx, ← List.getD_eq_getElem ys d hy]
  exact h i hx

/-- Two byte buffers that read alike, count and window, are equal. -/
theorem eq_of_window_eq {xs ys : List Byte} (hx : xs.length ≤ 0x1000) (hy : ys.length ≤ 0x1000)
    (hn : countWord xs.length = countWord ys.length)
    (h : ∀ i, i < 0x1000 → (byteAt xs i).setWidth 16 = (byteAt ys i).setWidth 16) : xs = ys :=
  eq_of_getD_eq 0#8 (eq_of_countWord_eq (by omega) (by omega) hn) fun i hi =>
    eq_of_setWidth_eq (by decide) (h i (Nat.lt_of_lt_of_le hi hx))

/-- STATUS shows the ten flags (10_state.md R45). -/
theorem State.flags_eq_of_status_eq {s t : State} (h : s.status = t.status) :
    s.syncFound = t.syncFound ∧ s.crcOk = t.crcOk ∧ s.lenOk = t.lenOk ∧ s.recValid = t.recValid ∧
    s.rawOvf = t.rawOvf ∧ s.decOvf = t.decOvf ∧ s.txOvf = t.txOvf ∧ s.txBusy = t.txBusy ∧
    s.cmdErr = t.cmdErr ∧ s.rxDone = t.rxDone := by
  obtain ⟨s0, s1, s2, s3, s4, s5, s6, s7, s8, s9, -⟩ := statusWordLayout s
  obtain ⟨t0, t1, t2, t3, t4, t5, t6, t7, t8, t9, -⟩ := statusWordLayout t
  rw [h] at s0 s1 s2 s3 s4 s5 s6 s7 s8 s9
  exact ⟨s0.symm.trans t0, s1.symm.trans t1, s2.symm.trans t2, s3.symm.trans t3, s4.symm.trans t4,
    s5.symm.trans t5, s6.symm.trans t6, s7.symm.trans t7, s8.symm.trans t8, s9.symm.trans t9⟩

/-- The four buffers are read back through their counts and windows, which hold them whole
(10_state.md R48). -/
theorem State.buffers_eq_of_readPort_eq {s t : State} (hs : s.Inv) (ht : t.Inv)
    (h : ∀ a, s.readPort a = t.readPort a) :
    s.raw = t.raw ∧ s.dec = t.dec ∧ s.txp = t.txp ∧ s.fbuf = t.fbuf := by
  obtain ⟨hsraw, hsdec, hstxp, hsfbuf⟩ := hs.buffers_fit_windows
  obtain ⟨htraw, htdec, httxp, htfbuf⟩ := ht.buffers_fit_windows
  refine ⟨?_, ?_, ?_, ?_⟩
  · have hn : countWord s.raw.length = countWord t.raw.length := h 0x0005#16
    refine eq_of_getD_eq false (eq_of_countWord_eq hsraw htraw hn) fun i hi => ?_
    have hi : i < 0x8000 := Nat.lt_of_lt_of_le hi hsraw
    have hread := h (BitVec.ofNat 16 (0x8000 + i))
    rw [s.readPort_rawWindow hi, t.readPort_rawWindow hi] at hread
    exact eq_of_bitAt_zero_eq hread
  · refine eq_of_window_eq hsdec htdec (h 0x0008#16) fun i hi => ?_
    rw [← s.readPort_decWindow hi, ← t.readPort_decWindow hi, h]
  · refine eq_of_window_eq hstxp httxp (h 0x000C#16) fun i hi => ?_
    rw [← s.readPort_txpWindow hi, ← t.readPort_txpWindow hi, h]
  · refine eq_of_window_eq hsfbuf htfbuf (h 0x000D#16) fun i hi => ?_
    rw [← s.readPort_fbufWindow hi, ← t.readPort_fbufWindow hi, h]

/-- Settles O22: each register is read back from its word, and each buffer from its window. -/
theorem readPortShowsAllState : Obligations.ReadPortShowsAllState := by
  intro s t hs ht hcfg h
  obtain ⟨hsync, hcrcOk, hlenOk, hrec, hrawOvf, hdecOvf, htxOvf, hbusy, herr, hdone⟩ :=
    State.flags_eq_of_status_eq (s := s) (t := t) (h 0x0000#16)
  obtain ⟨hraw, hdec, htxp, hfbuf⟩ := State.buffers_eq_of_readPort_eq hs ht h
  have hcrc : s.crc = t.crc := h 0x0001#16
  have hmenc : s.menc = t.menc := h 0x0002#16
  have hmdec : s.mdec = t.mdec := eq_of_setWidth_eq (by decide) (h 0x0003#16)
  obtain ⟨hplvl, hpcnt⟩ : s.plvl = t.plvl ∧ s.pcnt = t.pcnt := eq_of_levelCount_eq (h 0x0004#16)
  have hsr : s.syncSr = t.syncSr := eq_of_setWidth_eq (by decide) (h 0x0006#16)
  have hdstart : s.dstart = t.dstart := h 0x0007#16
  have hcalc : s.rxcrcCalc = t.rxcrcCalc := h 0x0009#16
  have hrecv : s.rxcrcRecv = t.rxcrcRecv := h 0x000A#16
  have hplen : s.plen = t.plen := h 0x000B#16
  have htxbyte : s.txbyte = t.txbyte := h 0x000E#16
  have htxhalf : s.txhalf = t.txhalf := eq_of_setWidth_eq (by decide) (h 0x000F#16)
  have htxOut : s.txOut = t.txOut := eq_of_bitAt_zero_eq (h 0x0010#16)
  rw [← hcfg, ← hcrc, ← hmenc, ← hmdec, ← hplvl, ← hpcnt, ← hraw, ← hrawOvf, ← hsr, ← hdstart,
    ← hsync, ← hdec, ← hdecOvf, ← hcalc, ← hrecv, ← hplen, ← hcrcOk, ← hlenOk, ← hrec, ← htxp,
    ← htxOvf, ← hfbuf, ← htxbyte, ← htxhalf, ← hbusy, ← htxOut, ← herr, ← hdone]

end Sys2Proof.Machine
end

section
/-! PROOFS. The idempotent commands (20_memory.md R69). -/

namespace Sys2Proof.Machine

/-- Under FIRST_SAMPLE a decode uses up no free byte (41_manchester.md R124). -/
theorem State.useDraws_of_firstSample {s : State} (hp : s.cfg.manPolicy = .firstSample) (n : Nat) :
    s.useDraws n = s := by
  rw [State.useDraws, hp]

/-- Under FIRST_SAMPLE MAN_DEC writes MDEC alone (41_manchester.md R128). -/
theorem exec_manDec_of_firstSample {s : State} (hp : s.cfg.manPolicy = .firstSample) (w : Half) :
    exec (.manDec w) s =
      .next { s with mdec := manDec .firstSample (Config.freeByte s.draws) w } := by
  rw [exec, execManDec, State.useDraws_of_firstSample, hp]
  exact hp

/-- Settles O23. No listed command reads what it writes, so a second run writes the same again.
MAN_DEC needs the policy for this: under DRAW it takes a fresh free byte each time. -/
theorem idempotentCommands : Obligations.IdempotentCommands := by
  intro i s hp hi
  cases i with
  | nop | crcInit | manEnc | rxClear | syncScan | txBegin | statClr | softReset =>
    exact ⟨_, rfl, rfl, rfl⟩
  | manDec w =>
    exact ⟨_, exec_manDec_of_firstSample hp w, exec_manDec_of_firstSample hp w, rfl⟩
  | crcUpd | rxTick | rxAppend | rxDecode | txPush | txBuild | txStep =>
    simp [Instr.mnemonic] at hi

end Sys2Proof.Machine
end

section
/-! PROOFS. The fields of a word, the decoder and the assembler, and the statements of
30_encoding.md. -/

namespace Sys2Proof.Machine

open Terms

/-! ### A word and its three fields -/

/-- A word is its three fields put together (30_encoding.md R81). -/
theorem append_fields (w : Word) : opcOf w ++ rsvOf w ++ immOf w = w := by
  simp only [opcOf, rsvOf, immOf]
  rw [BitVec.extractLsb'_append_extractLsb'_eq_extractLsb' (by rfl),
    BitVec.extractLsb'_append_extractLsb'_eq_extractLsb' (by rfl)]
  exact BitVec.extractLsb'_eq_self

/-- Two words put together are equal exactly when their fields are. -/
theorem append_fields_inj {o r o' r' : Byte} {m m' : Half} :
    o ++ r ++ m = o' ++ r' ++ m' ↔ o = o' ∧ r = r' ∧ m = m' := by
  refine ⟨fun h => ?_, by rintro ⟨rfl, rfl, rfl⟩; rfl⟩
  obtain ⟨ho, hr, hm⟩ := Laws.EncodedFields.fields_of_append o r m
  obtain ⟨ho', hr', hm'⟩ := Laws.EncodedFields.fields_of_append o' r' m'
  rw [h] at ho hr hm
  exact ⟨ho.symm.trans ho', hr.symm.trans hr', hm.symm.trans hm'⟩

/-- A word shifted down by 24 is its OPC (30_encoding.md R81). -/
theorem toNat_shift_eq_opcOf (w : Word) : (w >>> 24).toNat = (opcOf w).toNat := by
  have := w.isLt
  simp only [opcOf, BitVec.toNat_ushiftRight, BitVec.extractLsb'_toNat, Nat.shiftRight_eq_div_pow]
  omega

/-- With a zero RSV, the word is `(OPC << 24) or IMM` (30_encoding.md R88). -/
theorem append_zero_append (o : Byte) (m : Half) :
    o ++ 0#8 ++ m = (o.setWidth 32 <<< 24) ||| m.setWidth 32 := by
  have ho : o.toNat <<< 24 < 2 ^ 32 := by rw [Nat.shiftLeft_eq]; omega
  have hm : m.toNat < 2 ^ 32 := by omega
  apply BitVec.eq_of_toNat_eq
  simp only [BitVec.toNat_append, BitVec.toNat_or, BitVec.toNat_shiftLeft, BitVec.toNat_setWidth]
  rw [Nat.mod_eq_of_lt (by omega : o.toNat < 2 ^ 32), Nat.mod_eq_of_lt ho, Nat.mod_eq_of_lt hm,
    BitVec.toNat_zero, Nat.or_zero, ← Nat.shiftLeft_add]

/-! ### The commands and their operands -/

/-- The opcode map names each mnemonic by its own opcode (30_encoding.md R83). -/
@[simp] theorem mnemonicOf_opc (m : Mnemonic) : mnemonicOf m.opc = some m := by
  cases m <;> rfl

/-- The opcode map inverts `Mnemonic.opc`. -/
theorem opc_of_mnemonicOf {o : Byte} {m : Mnemonic} (h : mnemonicOf o = some m) : o = m.opc := by
  have hm := List.find?_some h
  exact (beq_iff_eq.mp hm).symm

/-- A command built for a mnemonic has that mnemonic. -/
@[simp] theorem build_mnemonic (m : Mnemonic) (imm : Half) : (m.build imm).mnemonic = m := by
  cases m <;> rfl

/-- A byte is read back from its operand field. -/
@[simp] theorem byteOperand_immOfByte (b : Byte) : byteOperand (immOfByte b) = b := by
  revert b; decide

/-- A level is read back from its operand field. -/
@[simp] theorem levelOperand_immOfLevel (l : Bool) : levelOperand (immOfLevel l) = l := by
  revert l; decide

/-- A field that is zero under a mask is zero at each bit of the mask. -/
theorem getLsbD_of_and_eq_zero {x m : Half} (h : x &&& m = 0#16) {j : Nat}
    (hm : m.getLsbD j = true) : x.getLsbD j = false := by
  simpa [hm] using congrArg (·.getLsbD j) h

/-- An operand field with IMM[15:8] zero is that of its byte. -/
theorem immOfByte_byteOperand {imm : Half} (h : imm &&& Format.f8.mustBeZero = 0#16) :
    immOfByte (byteOperand imm) = imm := by
  have hmask : ∀ j < 16, ¬ j < 8 → Format.f8.mustBeZero.getLsbD j = true := by decide
  apply BitVec.eq_of_getLsbD_eq
  intro j hj
  by_cases h8 : j < 8
  · simp [immOfByte, byteOperand, hj, h8]
  · simp [immOfByte, byteOperand, h8, getLsbD_of_and_eq_zero h (hmask j hj h8)]

/-- An operand field with IMM[15:1] zero is that of its level. -/
theorem immOfLevel_levelOperand {imm : Half} (h : imm &&& Format.f1.mustBeZero = 0#16) :
    immOfLevel (levelOperand imm) = imm := by
  have hmask : ∀ j < 16, j ≠ 0 → Format.f1.mustBeZero.getLsbD j = true := by decide
  apply BitVec.eq_of_getLsbD_eq
  intro j hj
  by_cases h0 : j = 0
  · subst h0; simp [immOfLevel, bitAt, levelOperand]
  · simp [immOfLevel, bitAt, h0, getLsbD_of_and_eq_zero h (hmask j hj h0)]

/-- A command is built from its mnemonic and its operand field. -/
@[simp] theorem build_imm (i : Instr) : i.mnemonic.build i.imm = i := by
  cases i <;> simp [Instr.mnemonic, Instr.imm, Mnemonic.build]

/-- A command built from an operand field whose must-be-zero bits are zero has that field. -/
theorem imm_build {m : Mnemonic} {imm : Half} (h : imm &&& m.format.mustBeZero = 0#16) :
    (m.build imm).imm = imm := by
  cases m with
  | crcUpd | manEnc | txPush => exact immOfByte_byteOperand h
  | rxTick | rxAppend => exact immOfLevel_levelOperand h
  | manDec => rfl
  | nop | crcInit | rxClear | syncScan | rxDecode | txBegin | txBuild | txStep | statClr
  | softReset => exact (BitVec.and_allOnes.symm.trans h).symm

/-- The word of a built command. -/
theorem encode_build {m : Mnemonic} {imm : Half} (h : imm &&& m.format.mustBeZero = 0#16) :
    encode (m.build imm) = m.opc ++ 0#8 ++ imm := by
  rw [encode, build_mnemonic, imm_build h]

/-- The fields of the word of any command. -/
theorem encode_fields (i : Instr) : Laws.EncodedFields.Statement i := by
  cases i with
  | nop => exact Laws.EncodedFields.nop
  | crcInit => exact Laws.EncodedFields.crcInit
  | crcUpd b => exact Laws.EncodedFields.crcUpd b
  | manEnc b => exact Laws.EncodedFields.manEnc b
  | manDec w => exact Laws.EncodedFields.manDec w
  | rxTick l => exact Laws.EncodedFields.rxTick l
  | rxAppend l => exact Laws.EncodedFields.rxAppend l
  | rxClear => exact Laws.EncodedFields.rxClear
  | syncScan => exact Laws.EncodedFields.syncScan
  | rxDecode => exact Laws.EncodedFields.rxDecode
  | txBegin => exact Laws.EncodedFields.txBegin
  | txPush b => exact Laws.EncodedFields.txPush b
  | txBuild => exact Laws.EncodedFields.txBuild
  | txStep => exact Laws.EncodedFields.txStep
  | statClr => exact Laws.EncodedFields.statClr
  | softReset => exact Laws.EncodedFields.softReset

/-! ### What the decoder answers -/

/-- A word whose OPC is in the table passes on to the checks of RSV and of the must-be-zero bits
(30_encoding.md R84). -/
theorem decode_of_opc {w : Word} {m : Mnemonic} (h : opcOf w = m.opc) :
    decode w =
      if rsvOf w ≠ 0#8 then .error .reservedField
      else if immOf w &&& m.format.mustBeZero ≠ 0#16 then .error .mustBeZeroBits
      else .ok (m.build (immOf w)) := by
  rw [decode, h, mnemonicOf_opc]

/-- A word is rejected for its opcode exactly when the table has no row for it. -/
theorem decode_eq_unassignedOpc_iff (w : Word) :
    decode w = .error .unassignedOpc ↔ mnemonicOf (opcOf w) = none := by
  cases hm : mnemonicOf (opcOf w) with
  | none => simp [decode, hm]
  | some m =>
    rw [decode_of_opc (opc_of_mnemonicOf hm)]
    split_ifs <;> simp

/-- The words that decode to a command: those with a mnemonic's OPC, a zero RSV and zero
must-be-zero bits, and the command is then built from IMM (30_encoding.md R84). -/
theorem decode_eq_ok_iff {w : Word} {i : Instr} :
    decode w = .ok i ↔
      opcOf w = i.mnemonic.opc ∧ rsvOf w = 0#8 ∧
        immOf w &&& i.mnemonic.format.mustBeZero = 0#16 ∧ i.mnemonic.build (immOf w) = i := by
  constructor
  · intro h
    cases hm : mnemonicOf (opcOf w) with
    | none => rw [(decode_eq_unassignedOpc_iff w).mpr hm] at h; cases h
    | some m =>
      have ho := opc_of_mnemonicOf hm
      rw [decode_of_opc ho] at h
      split_ifs at h with hr hz
      cases h
      rw [build_mnemonic]
      exact ⟨ho, not_not.mp hr, not_not.mp hz, rfl⟩
  · rintro ⟨ho, hr, hz, hb⟩
    rw [decode_of_opc ho, if_neg (not_not.mpr hr), if_neg (not_not.mpr hz), hb]

/-- Settles O1: the word's fields pass the decoder's checks and build the command again. -/
theorem decodeEncodeRoundTrip : Obligations.DecodeEncodeRoundTrip := by
  intro i
  obtain ⟨ho, hr, hm, hz⟩ := encode_fields i
  rw [decode_eq_ok_iff, hm]
  exact ⟨ho, hr, hz, build_imm i⟩

/-- Settles O2: each of the three fields of a legal word is that of its command's word. -/
theorem encodeDecodeRoundTrip : Obligations.EncodeDecodeRoundTrip := by
  intro w i h
  obtain ⟨ho, hr, hz, hb⟩ := decode_eq_ok_iff.mp h
  calc encode i = i.mnemonic.opc ++ 0#8 ++ immOf w := by rw [← encode_build hz, hb]
    _ = opcOf w ++ rsvOf w ++ immOf w := by rw [ho, hr]
    _ = w := append_fields w

/-! ### The opcode table -/

/-- The mask of a row covers OPC, RSV and the must-be-zero bits of the row's format, and its match
is the row's OPC over zeros (30_encoding.md R83). -/
theorem tableRow_eq (m : Mnemonic) :
    tableRow m = (0xFF#8 ++ 0xFF#8 ++ m.format.mustBeZero, m.opc ++ 0#8 ++ 0#16) := by
  cases m <;> rfl

/-- A word matches a row exactly when its fields do. -/
theorem matches_tableRow_iff (m : Mnemonic) (w : Word) :
    w &&& (tableRow m).1 = (tableRow m).2 ↔
      opcOf w = m.opc ∧ rsvOf w = 0#8 ∧ immOf w &&& m.format.mustBeZero = 0#16 := by
  have hones : ∀ b : Byte, b &&& 0xFF#8 = b := fun b => BitVec.and_allOnes
  calc w &&& (tableRow m).1 = (tableRow m).2
      ↔ (opcOf w ++ rsvOf w ++ immOf w) &&& (0xFF#8 ++ 0xFF#8 ++ m.format.mustBeZero) =
          m.opc ++ 0#8 ++ 0#16 := by rw [tableRow_eq, append_fields]
    _ ↔ _ := by rw [BitVec.and_append, BitVec.and_append, append_fields_inj, hones, hones]

/-- Settles O3: the decoder accepts exactly the fields that the row's mask and match ask for. -/
theorem legalWordsMatchTheirTableRow : Obligations.LegalWordsMatchTheirTableRow := by
  intro m w
  rw [matches_tableRow_iff]
  constructor
  · rintro ⟨i, h, rfl⟩
    obtain ⟨ho, hr, hz, -⟩ := decode_eq_ok_iff.mp h
    exact ⟨ho, hr, hz⟩
  · intro h
    refine ⟨m.build (immOf w), ?_, build_mnemonic m _⟩
    simpa [decode_eq_ok_iff] using h

/-- The bytes with no row of the table (30_encoding.md R87). -/
theorem mnemonicOf_eq_none_iff (o : Byte) :
    mnemonicOf o = none ↔
      (0x03 ≤ o.toNat ∧ o.toNat ≤ 0x0F) ∨ (0x12 ≤ o.toNat ∧ o.toNat ≤ 0x1F) ∨
      (0x25 ≤ o.toNat ∧ o.toNat ≤ 0x2F) ∨ (0x34 ≤ o.toNat ∧ o.toNat ≤ 0x6F) ∨
      (0x71 ≤ o.toNat ∧ o.toNat ≤ 0x7E) ∨ (0x80 ≤ o.toNat ∧ o.toNat ≤ 0xFF) := by
  revert o; decide

/-- Settles O5: the decoder rejects for its opcode exactly a word whose OPC has no row. -/
theorem unassignedOpcodesAreIllegal : Obligations.UnassignedOpcodesAreIllegal := by
  intro w
  rw [decode_eq_unassignedOpc_iff, toNat_shift_eq_opcOf]
  exact mnemonicOf_eq_none_iff _

/-- Settles O4: each example word is evaluated. -/
theorem exampleWordsDecode : Obligations.ExampleWordsDecode := by
  unfold Obligations.ExampleWordsDecode
  decide

/-! ### The assembler -/

/-- An assembler rejects the lines that are not well formed, and no others. -/
theorem assemble_eq_none_iff (l : AsmLine) : l.assemble = none ↔ l.wellFormed = false := by
  simp [AsmLine.assemble]

/-- What an accepted line assembles to. -/
theorem assemble_eq_some_iff {l : AsmLine} {i : Instr} :
    l.assemble = some i ↔
      l.wellFormed = true ∧ l.mnemonic.build (BitVec.ofNat 16 (l.operand.getD 0)) = i := by
  simp [AsmLine.assemble]

/-- An operand that fits its format leaves the must-be-zero bits zero (30_encoding.md R82, R88). -/
theorem and_mustBeZero_of_fits {f : Format} {x : Option Nat} (h : f.fits x = true) :
    BitVec.ofNat 16 (x.getD 0) &&& f.mustBeZero = 0#16 := by
  cases x with
  | none => simp
  | some n =>
    cases f with
    | f0 => cases h
    | f1 =>
      have hn : n ≤ 1 := of_decide_eq_true h
      interval_cases n <;> rfl
    | f8 =>
      have hn : n ≤ 255 := of_decide_eq_true h
      have hbyte : BitVec.ofNat 16 n = immOfByte (BitVec.ofNat 8 n) :=
        BitVec.eq_of_toNat_eq (by simp [immOfByte]; omega)
      exact hbyte ▸ Laws.EncodedFields.byte_fits _
    | f16 => exact BitVec.and_zero

/-- An operand that fits its format fits IMM (30_encoding.md R82, R88). -/
theorem operand_lt_of_fits {f : Format} {x : Option Nat} (h : f.fits x = true) : x.getD 0 < 65536 := by
  cases x with
  | none => simp
  | some n =>
    cases f with
    | f0 => cases h
    | f1 | f8 | f16 => exact Nat.lt_of_le_of_lt (of_decide_eq_true h) (by decide)

/-- The command of an accepted line has the line's mnemonic, and its word is
`(OPC << 24) or operand` (30_encoding.md R88). -/
theorem encode_of_assemble {l : AsmLine} {i : Instr} (h : l.assemble = some i) :
    i.mnemonic = l.mnemonic ∧
      encode i = (l.mnemonic.opc.setWidth 32 <<< 24) ||| BitVec.ofNat 32 (l.operand.getD 0) := by
  obtain ⟨hw, rfl⟩ := assemble_eq_some_iff.mp h
  refine ⟨build_mnemonic _ _, ?_⟩
  have hn : l.operand.getD 0 < 65536 := operand_lt_of_fits hw
  have hx : (BitVec.ofNat 16 (l.operand.getD 0)).setWidth 32 = BitVec.ofNat 32 (l.operand.getD 0) :=
    BitVec.eq_of_toNat_eq (by simp; omega)
  rw [encode_build (and_mustBeZero_of_fits hw), append_zero_append, hx]

/-- Settles O6: the rejections format by format, the accepted lines by their common word. -/
theorem assemblerRejectsOrEncodesTheOperand : Obligations.AssemblerRejectsOrEncodesTheOperand := by
  intro m n
  refine ⟨?_, ?_, fun i h => encode_of_assemble h, fun i h => ?_⟩
  · rw [assemble_eq_none_iff, AsmLine.wellFormed]
    cases m.format <;> simp [Format.fits]
  · rw [assemble_eq_none_iff, AsmLine.wellFormed]
    cases m.format <;> simp [Format.fits]
  · obtain ⟨hm, hw⟩ := encode_of_assemble h
    exact ⟨hm, hw.trans BitVec.or_zero⟩

/-! ### A word as the next input -/

/-- A whole word placed as the next input is put first in the list of inputs. -/
theorem State.withFetchWord_toNat (s : State) (w : Word) :
    s.withFetchWord 32 w.toNat = putWord w s := by
  rw [State.withFetchWord, Nat.mod_eq_of_lt w.isLt, BitVec.ofNat_toNat, BitVec.setWidth_eq]

/-- A word put first is taken by the next step, which leaves the other inputs as they were. -/
theorem step_putWord {s : State} (hc : s.cfg.WellFormed) (w : Word) :
    step (putWord w s) = takeInput (.cmd w) s :=
  step_of_input (s := putWord w s) (rest := s.inputs) hc rfl

/-- Settles O8: the placed word is the oldest input, and it decodes to its command. -/
theorem placedCommandRunsNext : Obligations.PlacedCommandRunsNext := by
  intro s i hc
  rw [State.withFetchWord_toNat, step_putWord hc, takeInput_of_decode_ok (decodeEncodeRoundTrip i)]

/-- An illegal word sets CMD_ERR (30_encoding.md R85). -/
theorem takeInput_of_decode_error {w : Word} {e : Illegal} (hd : decode w = .error e) (s : State) :
    takeInput (.cmd w) s = .next s.commandError := by
  rw [takeInput, hd]

/-- Settles O9: the step takes the oldest word, and an illegal word sets CMD_ERR alone. -/
theorem illegalWordSetsOnlyCmdErr : Obligations.IllegalWordSetsOnlyCmdErr := by
  intro s w rest e hc hi hd
  rw [step_of_input hc hi, takeInput_of_decode_error hd, State.commandError]

end Sys2Proof.Machine
end

section
/-! PROOFS. The CRC unit, and the statements of 40_crc.md. -/

namespace Sys2Proof.Machine

open Terms

/-! ### The word of a command without an operand -/

/-- Words whose top bytes agree have one OPC (30_encoding.md R81). -/
theorem opcOf_eq_of_shift_eq {v w : Word} (h : v >>> 24 = w >>> 24) : opcOf v = opcOf w := by
  apply BitVec.eq_of_toNat_eq
  rw [← toNat_shift_eq_opcOf, ← toNat_shift_eq_opcOf, h]

/-- A legal word of a command of format F0 is its OPC over zeros (30_encoding.md R82). -/
theorem eq_append_of_decode_f0 {w : Word} {i : Instr} (hf : i.mnemonic.format = .f0)
    (h : decode w = .ok i) : w = i.mnemonic.opc ++ 0#8 ++ 0#16 := by
  obtain ⟨ho, hr, hz, -⟩ := decode_eq_ok_iff.mp h
  rw [hf] at hz
  have himm : immOf w = 0#16 := BitVec.and_allOnes.symm.trans hz
  rw [← append_fields w, ho, hr, himm]

/-- A command of format F0 has one word: a legal word with its OPC has its mnemonic, so no bit is
left to choose (30_encoding.md R85). -/
theorem onlyWordOf_encode {i : Instr} (hf : i.mnemonic.format = .f0) : OnlyWordOf (encode i) i := by
  have hi := decodeEncodeRoundTrip i
  refine ⟨hi, fun v hv hne => ?_⟩
  cases hj : decode v with
  | error e => exact ⟨e, rfl⟩
  | ok j =>
    obtain ⟨hiOpc, -⟩ := decode_eq_ok_iff.mp hi
    obtain ⟨hjOpc, -⟩ := decode_eq_ok_iff.mp hj
    have hopc : j.mnemonic.opc = i.mnemonic.opc := by
      rw [← hjOpc, ← hiOpc, opcOf_eq_of_shift_eq hv]
    have hm : j.mnemonic = i.mnemonic := by
      simpa using congrArg mnemonicOf hopc
    have hword : v = i.mnemonic.opc ++ 0#8 ++ 0#16 :=
      hm ▸ eq_append_of_decode_f0 (hm ▸ hf) hj
    exact absurd (hword.trans (eq_append_of_decode_f0 hf hi).symm) hne

/-- Settles O26: CRC_INIT is a command of format F0, and its word is its OPC over zeros. -/
theorem crcInitSeeds : Obligations.CrcInitSeeds :=
  ⟨fun _ => rfl, rfl, onlyWordOf_encode (i := .crcInit) rfl⟩

/-! ### One shift of the register -/

/-- A shift of the default form, as one exclusive or (40_crc.md R100). -/
theorem crcShift_eq_xor (poly c : Half) :
    crcShift poly c = (c <<< 1) ^^^ (if c.getLsbD 15 then poly else 0#16) := by
  rw [crcShift]
  split <;> simp

/-- A shift of the reflected form, as one exclusive or (40_crc.md R100). -/
theorem crcShiftReflected_eq_xor (poly c : Half) :
    crcShiftReflected poly c = (c >>> 1) ^^^ (if c.getLsbD 0 then poly.reverse else 0#16) := by
  rw [crcShiftReflected]
  split <;> simp

section
variable {poly : Half} (hp : poly.getLsbD 0 = true)
include hp

/-- The polynomial's lowest bit lands in the bit that the shift empties. -/
theorem getLsbD_zero_crcShift (c : Half) : (crcShift poly c).getLsbD 0 = c.getLsbD 15 := by
  rw [crcShift]
  split <;> simp_all

/-- The reversed polynomial's highest bit lands in the bit that the shift empties. -/
theorem getLsbD_fifteen_crcShiftReflected (c : Half) :
    (crcShiftReflected poly c).getLsbD 15 = c.getLsbD 0 := by
  have hrev : poly.reverse.getLsbD 15 = true := by rw [BitVec.getLsbD_reverse]; exact hp
  rw [crcShiftReflected]
  split <;> simp_all

/-- The bit shifted out is read back from the emptied place, and the other fifteen from the shifted
register. -/
theorem crcShift_injective : Function.Injective (crcShift poly) := by
  intro c d h
  have hout : c.getLsbD 15 = d.getLsbD 15 := by
    rw [← getLsbD_zero_crcShift hp, ← getLsbD_zero_crcShift hp, h]
  have hrest : c <<< 1 = d <<< 1 := by
    rw [crcShift_eq_xor, crcShift_eq_xor, hout] at h
    exact (BitVec.xor_left_inj _).mp h
  refine BitVec.eq_of_getLsbD_eq fun j hj => ?_
  rcases Nat.lt_or_ge j 15 with hlt | hge
  · have hj1 : j + 1 < 16 := by omega
    have hbit := congrArg (·.getLsbD (j + 1)) hrest
    simpa [hj, hj1] using hbit
  · obtain rfl : j = 15 := by omega
    exact hout

/-- The mirror image of `crcShift_injective`. -/
theorem crcShiftReflected_injective : Function.Injective (crcShiftReflected poly) := by
  intro c d h
  have hout : c.getLsbD 0 = d.getLsbD 0 := by
    rw [← getLsbD_fifteen_crcShiftReflected hp, ← getLsbD_fifteen_crcShiftReflected hp, h]
  have hrest : c >>> 1 = d >>> 1 := by
    rw [crcShiftReflected_eq_xor, crcShiftReflected_eq_xor, hout] at h
    exact (BitVec.xor_left_inj _).mp h
  refine BitVec.eq_of_getLsbD_eq fun j hj => ?_
  cases j with
  | zero => exact hout
  | succ j =>
    have hbit := congrArg (·.getLsbD j) hrest
    simpa [Nat.add_comm] using hbit

end

/-! ### The update -/

/-- The update of the default form: the byte enters the high byte, then eight shifts
(40_crc.md R100). -/
theorem crcUpdate_of_not_reflected {cfg : Config} (h : cfg.crcReflected = false) (c : Half)
    (b : Byte) : crcUpdate cfg c b = (crcShift cfg.crcPoly)^[8] (c ^^^ (b.setWidth 16 <<< 8)) := by
  simp [crcUpdate, h]

/-- The update of the reflected form: the byte enters the low byte, then eight shifts
(40_crc.md R100). -/
theorem crcUpdate_of_reflected {cfg : Config} (h : cfg.crcReflected = true) (c : Half) (b : Byte) :
    crcUpdate cfg c b = (crcShiftReflected cfg.crcPoly)^[8] (c ^^^ b.setWidth 16) := by
  simp [crcUpdate, h]

/-- Settles O27: the loop over `List.range 8` is the eightfold iterate of the shift, and 0x8408 is
0x1021 reversed. -/
theorem crcUpdRunsTheUpdateLoop : Obligations.CrcUpdRunsTheUpdateLoop := by
  refine ⟨fun s b hr => ?_, fun s b hr hp => ?_⟩
  · rw [List.foldl_const, exec, execCrcUpd, crcUpdate_of_not_reflected hr]
    rfl
  · rw [List.foldl_const, exec, execCrcUpd, crcUpdate_of_reflected hr, hp]
    rfl

/-- A byte moved to the high half of a word is read back from it. -/
theorem highByte_injective : Function.Injective fun b : Byte => b.setWidth 16 <<< 8 := by
  intro a b h
  refine BitVec.eq_of_getLsbD_eq fun j hj => ?_
  have hj8 : j + 8 < 16 := by omega
  have hj16 : j < 16 := by omega
  have hbit := congrArg (·.getLsbD (j + 8)) h
  simpa [hj, hj8, hj16] using hbit

section
variable {cfg : Config} (hp : cfg.crcPoly.getLsbD 0 = true)
include hp

/-- For one byte, different registers stay different (40_crc.md R102). -/
theorem crcUpdate_injective_left (b : Byte) : Function.Injective fun c => crcUpdate cfg c b := by
  cases hr : cfg.crcReflected with
  | false =>
    simp only [crcUpdate_of_not_reflected hr]
    exact ((crcShift_injective hp).iterate 8).comp fun _ _ => (BitVec.xor_left_inj _).mp
  | true =>
    simp only [crcUpdate_of_reflected hr]
    exact ((crcShiftReflected_injective hp).iterate 8).comp fun _ _ => (BitVec.xor_left_inj _).mp

/-- From one register, different bytes leave different registers. -/
theorem crcUpdate_injective_right (c : Half) : Function.Injective (crcUpdate cfg c) := by
  intro a b h
  cases hr : cfg.crcReflected with
  | false =>
    rw [crcUpdate_of_not_reflected hr, crcUpdate_of_not_reflected hr] at h
    exact highByte_injective ((BitVec.xor_right_inj _).mp ((crcShift_injective hp).iterate 8 h))
  | true =>
    rw [crcUpdate_of_reflected hr, crcUpdate_of_reflected hr] at h
    exact eq_of_setWidth_eq (by decide)
      ((BitVec.xor_right_inj _).mp ((crcShiftReflected_injective hp).iterate 8 h))

/-- For one sequence, different seeds give different CRCs. -/
theorem crc16_injective_seed (d : List Byte) : Function.Injective fun seed => crc16 cfg seed d := by
  induction d with
  | nil => exact fun _ _ => (BitVec.xor_left_inj _).mp
  | cons b d ih => exact ih.comp (crcUpdate_injective_left hp b)

/-- A sequence with one byte replaced by a different one has a different CRC. -/
theorem crc16_set_ne {d : List Byte} {i : Nat} (hi : i < d.length) {b : Byte}
    (hb : b ≠ byteAt d i) (seed : Half) : crc16 cfg seed (d.set i b) ≠ crc16 cfg seed d := by
  induction d generalizing i seed with
  | nil => cases hi
  | cons a d ih =>
    cases i with
    | zero =>
      have hne : crcUpdate cfg seed b ≠ crcUpdate cfg seed a :=
        (crcUpdate_injective_right hp seed).ne hb
      exact (crc16_injective_seed hp d).ne hne
    | succ i => exact ih (Nat.lt_of_succ_lt_succ hi) hb _

end

/-- The spec's polynomial has its lowest bit set. -/
theorem getLsbD_zero_of_crcPoly {cfg : Config} (h : cfg.crcPoly = 0x1021#16) :
    cfg.crcPoly.getLsbD 0 = true := by
  rw [h]; decide

/-- Settles O29: on the finite set of registers, the update is bijective as it is injective. -/
theorem crcUpdateIsABijection : Obligations.CrcUpdateIsABijection :=
  ⟨fun _ b hp => Finite.injective_iff_bijective.mp
    (crcUpdate_injective_left (getLsbD_zero_of_crcPoly hp) b), by decide, by decide⟩

/-! ### The sequence function -/

/-- `crc16` takes one more byte before the final XOR (40_crc.md R101). -/
theorem crc16_append_singleton (cfg : Config) (seed : Half) (s : List Byte) (b : Byte) :
    crc16 cfg seed (s ++ [b]) =
      crcUpdate cfg (crc16 cfg seed s ^^^ cfg.crcXorout) b ^^^ cfg.crcXorout := by
  have hfold : crc16 cfg seed s ^^^ cfg.crcXorout = s.foldl (crcUpdate cfg) seed := by
    rw [crc16, BitVec.xor_assoc, BitVec.xor_self, BitVec.xor_zero]
  rw [hfold, crc16, List.foldl_append]
  rfl

/-- The check value over the ASCII string 123456789 (40_crc.md R101), its 72 shifts simplified in
turn: evaluated whole, they are too deep for `decide`. -/
theorem crc16_check_value :
    crc16 Config.default 0xFFFF#16
      [0x31#8, 0x32#8, 0x33#8, 0x34#8, 0x35#8, 0x36#8, 0x37#8, 0x38#8, 0x39#8] = 0x29B1#16 := by
  simp [crc16, crcUpdate, crcShift, Config.default]

/-- Settles O28: the fold's equations and the two check values. -/
theorem crcSequenceFunction : Obligations.CrcSequenceFunction :=
  ⟨crc16_nil, crc16_append_singleton, by decide, crc16_check_value⟩

/-- Flipping a bit of a word changes it. -/
theorem xor_bit_ne {n k : Nat} (hk : k < n) (x : BitVec n) : x ^^^ (1#n <<< k) ≠ x := by
  intro h
  have hbit := congrArg (·.getLsbD k) h
  simp [hk] at hbit

/-- Settles O30: a flipped bit of the sequence is a different byte, and a flipped bit of the CRC a
different CRC. -/
theorem crcDetectsEverySingleBitFlip : Obligations.CrcDetectsEverySingleBitFlip := by
  intro cfg d hp
  refine ⟨rfl, fun i k hi hk => ?_, fun k hk => ?_⟩
  · exact crc16_set_ne (getLsbD_zero_of_crcPoly hp) hi (xor_bit_ne hk _) _
  · exact (xor_bit_ne hk _).symm

end Sys2Proof.Machine
end

section
/-! PROOFS. The Manchester codec, and the statements of 41_manchester.md. -/

namespace Sys2Proof.Machine

/-! ### The encoder, bit by bit -/

/-- A pair holds data bit `x` in its second level and the inverse in its first
(41_manchester.md R121). -/
theorem getLsbD_linePair (x : Bool) (k : Nat) :
    (linePair x).getLsbD k = (decide (k = 0) && x || decide (k = 1) && !x) := by
  match k with
  | 0 | 1 => cases x <;> rfl
  | k + 2 => simp

/-- A pair placed at index `i` holds its two levels in bits `2 * i` and `2 * i + 1`
(41_manchester.md R120). -/
theorem getLsbD_linePair_shiftLeft (x : Bool) (i j : Nat) (hj : j < 16) :
    ((linePair x).setWidth 16 <<< (2 * i)).getLsbD j =
      (decide (j = 2 * i) && x || decide (j = 2 * i + 1) && !x) := by
  rw [BitVec.getLsbD_shiftLeft, BitVec.getLsbD_setWidth, getLsbD_linePair]
  rcases Nat.lt_or_ge j (2 * i) with hlt | hge
  · have h0 : j ≠ 2 * i := by omega
    have h1 : j ≠ 2 * i + 1 := by omega
    simp [hlt, h0, h1]
  · have h0 : j - 2 * i = 0 ↔ j = 2 * i := by omega
    have h1 : j - 2 * i = 1 ↔ j = 2 * i + 1 := by omega
    have hlt : j - 2 * i < 16 := by omega
    simp only [hj, hlt, Nat.not_lt.mpr hge, h0, h1, decide_true, decide_false, Bool.not_false,
      Bool.true_and]

/-- Bit `j` of an encoded byte is data bit `j / 2`, inverted at the odd places, the first levels. -/
theorem getLsbD_manEnc (b : Byte) (j : Nat) (hj : j < 16) :
    (manEnc b).getLsbD j = (b.getLsbD (j / 2) ^^ decide (j % 2 = 1)) := by
  simp only [manEnc, show List.range 8 = [0, 1, 2, 3, 4, 5, 6, 7] from rfl, List.foldl,
    BitVec.getLsbD_or, getLsbD_linePair_shiftLeft _ _ _ hj]
  interval_cases j <;> simp

/-- The second line level of pair `i` is data bit `i` (41_manchester.md R121). -/
theorem getLsbD_manEnc_even (b : Byte) (i : Nat) (hi : i < 8) :
    (manEnc b).getLsbD (2 * i) = b.getLsbD i := by
  rw [getLsbD_manEnc b _ (by omega)]
  simp

/-- The first line level of pair `i` is the inverse of data bit `i` (41_manchester.md R121). -/
theorem getLsbD_manEnc_odd (b : Byte) (i : Nat) (hi : i < 8) :
    (manEnc b).getLsbD (2 * i + 1) = !b.getLsbD i := by
  rw [getLsbD_manEnc b _ (by omega), show (2 * i + 1) / 2 = i by omega]
  simp

/-- Settles O31: the word written is `manEnc b`, whose pairs are known level by level. -/
theorem manEncWritesTheLinePairs : Obligations.ManEncWritesTheLinePairs := by
  intro b s
  refine ⟨manEnc b, rfl, fun i hi hb => ?_, fun i hi hb => ?_⟩
  · simp [getLsbD_manEnc_odd b i hi, getLsbD_manEnc_even b i hi, hb]
  · simp [getLsbD_manEnc_odd b i hi, getLsbD_manEnc_even b i hi, hb]

/-! ### The decoder, pair by pair -/

/-- A valid pair decodes to its first sample (41_manchester.md R124). -/
theorem pairDec_of_ne {a b : Bool} (h : a ≠ b) (policy : ManPolicy) (free : Bool) :
    pairDec policy free a b = a :=
  if_pos h

/-- Under FIRST_SAMPLE every pair decodes to its first sample (41_manchester.md R124). -/
theorem pairDec_firstSample (free a b : Bool) : pairDec .firstSample free a b = a :=
  ite_self a

/-- Data bit `i` of a word whose pair `i` is valid is the pair's first sample. -/
theorem getLsbD_manDec_of_ne {w : Half} {i : Nat} (hi : i < 8)
    (hne : w.getLsbD (2 * i + 1) ≠ w.getLsbD (2 * i)) (policy : ManPolicy) (free : Byte) :
    (manDec policy free w).getLsbD i = w.getLsbD (2 * i + 1) := by
  rw [getLsbD_manDec _ _ _ _ hi, pairDec_of_ne hne]

/-- MAN_DEC writes MDEC, and under DRAW it takes one free byte (41_manchester.md R128). -/
theorem exec_manDec (w : Half) (s : State) :
    exec (.manDec w) s =
      .next { s with mdec := manDec s.cfg.manPolicy (Config.freeByte s.draws) w
                     draws := if s.cfg.manPolicy = .draw then s.draws + 1 else s.draws } := by
  rw [exec, execManDec, State.useDraws_eq]

/-- Settles O32: the byte written is `manDec` of the word, pair by pair. -/
theorem manDecDecodesThePairs : Obligations.ManDecDecodesThePairs := by
  intro w s
  refine ⟨_, _, exec_manDec w s, fun i hi hne => getLsbD_manDec_of_ne hi hne _ _, fun hp => ?_⟩
  rw [hp]
  exact ⟨rfl, fun i hi => by rw [getLsbD_manDec _ _ _ _ hi, pairDec_firstSample]⟩

/-! ### The two domains -/

/-- The encoder emits valid pairs only, so the decoder answers each pair's first level, the inverse
of the data bit. -/
theorem manDec_manEnc (policy : ManPolicy) (free b : Byte) :
    manDec policy free (manEnc b) = ~~~b := by
  refine BitVec.eq_of_getLsbD_eq fun i hi => ?_
  have hodd := getLsbD_manEnc_odd b i hi
  have hne : (manEnc b).getLsbD (2 * i + 1) ≠ (manEnc b).getLsbD (2 * i) := by
    simp [hodd, getLsbD_manEnc_even b i hi]
  rw [getLsbD_manDec_of_ne hi hne, hodd]
  simp [hi]

/-- Through the inversion each pair stays valid, and its first sample is the data bit itself. -/
theorem manDec_not_manEnc (policy : ManPolicy) (free b : Byte) :
    manDec policy free (~~~manEnc b) = b := by
  refine BitVec.eq_of_getLsbD_eq fun i hi => ?_
  have h0 : 2 * i < 16 := by omega
  have h1 : 2 * i + 1 < 16 := by omega
  have hodd : (~~~manEnc b).getLsbD (2 * i + 1) = b.getLsbD i := by
    rw [BitVec.getLsbD_not, getLsbD_manEnc_odd b i hi]
    simp [h1]
  have hne : (~~~manEnc b).getLsbD (2 * i + 1) ≠ (~~~manEnc b).getLsbD (2 * i) := by
    rw [hodd, BitVec.getLsbD_not, getLsbD_manEnc_even b i hi]
    simp [h0]
  rw [getLsbD_manDec_of_ne hi hne, hodd]

/-- Settles O33, from the inverted and the plain image of each pair. -/
theorem manchesterPolarityRelation : Obligations.ManchesterPolarityRelation :=
  fun policy free b => ⟨manDec_not_manEnc policy free b, manDec_manEnc policy free b⟩

/-- Settles O34: pair `i` of the word and pair `7 - i` of the raw bits are the same two samples. -/
theorem rawByteDecodesAsItsWord : Obligations.RawByteDecodesAsItsWord := by
  intro policy free raw p w h
  refine BitVec.eq_of_getLsbD_eq fun i hi => ?_
  have hfirst : rawAt raw (p + 2 * (7 - i)) = w.getLsbD (2 * i + 1) := by
    rw [← h _ (by omega)]
    congr 1; omega
  have hsecond : rawAt raw (p + 2 * (7 - i) + 1) = w.getLsbD (2 * i) := by
    rw [Nat.add_assoc, ← h _ (by omega)]
    congr 1; omega
  rw [getLsbD_manDecRaw _ _ _ _ _ hi, getLsbD_manDec _ _ _ _ hi, hfirst, hsecond]

end Sys2Proof.Machine
end

section
/-! PROOFS. The pulse classifier, and the statements of 42_pulse_classifier.md. -/

namespace Sys2Proof.Machine

open Terms

/-! ### The four bands -/

section bands
variable {cfg : Config} {d : Nat}

/-- The NOISE band (42_pulse_classifier.md R143). -/
theorem classify_eq_noise_iff : classify cfg d = .noise ↔ d < cfg.tNoise := by
  rw [classify]
  split_ifs <;> simp [*]

/-- The SINGLE band: 00_scope.md R10 keeps NOISE below it. -/
theorem classify_eq_single_iff (hc : cfg.WellFormed) :
    classify cfg d = .single ↔ cfg.t1Lo ≤ d ∧ d ≤ cfg.t1Hi := by
  rw [classify]
  split_ifs <;> simp <;> omega

/-- The DOUBLE band: 00_scope.md R10 keeps NOISE and SINGLE below it. -/
theorem classify_eq_double_iff (hc : cfg.WellFormed) :
    classify cfg d = .double ↔ cfg.t2Lo ≤ d ∧ d ≤ cfg.t2Hi := by
  rw [classify]
  split_ifs <;> simp <;> omega

/-- IDLE is what the other bands leave (42_pulse_classifier.md R143). -/
theorem classify_eq_idle_iff :
    classify cfg d = .idle ↔
      cfg.tNoise ≤ d ∧ ¬ (cfg.t1Lo ≤ d ∧ d ≤ cfg.t1Hi) ∧ ¬ (cfg.t2Lo ≤ d ∧ d ≤ cfg.t2Hi) := by
  rw [classify]
  split_ifs <;> simp <;> omega

end bands

/-- Settles O35: the bands of a configuration that meets R10, at the default thresholds. -/
theorem classifierBands : Obligations.ClassifierBands := by
  intro d _
  have hc : Config.default.WellFormed := by decide
  rw [classify_eq_noise_iff, classify_eq_single_iff hc, classify_eq_double_iff hc,
    classify_eq_idle_iff]
  dsimp only [Config.default]
  omega

/-! ### Appending to RAW and clearing it -/

/-- `raw_push` with room (42_pulse_classifier.md R146). -/
theorem State.rawPush_of_lt {s : State} (h : s.raw.length < s.cfg.rawCap) (x : Bool) :
    s.rawPush x = { s with raw := s.raw ++ [x] } := if_pos h

/-- `raw_push` at capacity (42_pulse_classifier.md R146). -/
theorem State.rawPush_of_le {s : State} (h : s.cfg.rawCap ≤ s.raw.length) (x : Bool) :
    s.rawPush x = { s with rawOvf := true } := if_neg (Nat.not_lt.mpr h)

/-- Settles O41: RX_APPEND is `raw_push`, with room and at capacity. -/
theorem rxAppendNeverOverruns : Obligations.RxAppendNeverOverruns :=
  fun l _ => ⟨fun h => congrArg _ (State.rawPush_of_lt h l),
    fun h => congrArg _ (State.rawPush_of_le h l)⟩

/-- Settles O42: RX_CLEAR is `raw_clear`, a command of format F0, and its word is its OPC over
zeros. -/
theorem rxClearEndsTheAttempt : Obligations.RxClearEndsTheAttempt :=
  ⟨fun _ => rfl, onlyWordOf_encode (i := .rxClear) rfl⟩

/-! ### One rule per case of a tick -/

section tick
variable {l : Bool} {s : State}

/-- A tick at the stored level (42_pulse_classifier.md R151). -/
theorem exec_rxTick_of_eq (hl : l = s.plvl) : exec (.rxTick l) s = .next s.countTick :=
  congrArg _ (if_pos hl)

/-- A tick at a new level (42_pulse_classifier.md R151). -/
theorem exec_rxTick_of_ne (hl : l ≠ s.plvl) :
    exec (.rxTick l) s = .next (s.countTick.transition l) :=
  congrArg _ (if_neg hl)

/-- The class of a transition is that of the incremented count (42_pulse_classifier.md R142). -/
theorem classify_countTick (s : State) :
    classify s.countTick.cfg s.countTick.pcnt.toNat = classify s.cfg (tickCount s) := by
  rw [s.countTick_toNat, State.countTick_cfg, tickCount]

/-- A NOISE transition (42_pulse_classifier.md R145). -/
theorem exec_rxTick_of_noise (hl : l ≠ s.plvl) (h : classify s.cfg (tickCount s) = .noise) :
    exec (.rxTick l) s = .next s.countTick := by
  rw [exec_rxTick_of_ne hl, State.transition, classify_countTick, h]

/-- A SINGLE transition (42_pulse_classifier.md R143, R144). -/
theorem exec_rxTick_of_single (hl : l ≠ s.plvl) (h : classify s.cfg (tickCount s) = .single) :
    exec (.rxTick l) s = .next ((s.countTick.rawPush l).acceptLevel l) := by
  rw [exec_rxTick_of_ne hl, State.transition, classify_countTick, h]

/-- A DOUBLE transition (42_pulse_classifier.md R143, R144). -/
theorem exec_rxTick_of_double (hl : l ≠ s.plvl) (h : classify s.cfg (tickCount s) = .double) :
    exec (.rxTick l) s = .next (((s.countTick.rawPush l).rawPush l).acceptLevel l) := by
  rw [exec_rxTick_of_ne hl, State.transition, classify_countTick, h]

/-- An IDLE transition (42_pulse_classifier.md R143, R144). -/
theorem exec_rxTick_of_idle (hl : l ≠ s.plvl) (h : classify s.cfg (tickCount s) = .idle) :
    exec (.rxTick l) s = .next (s.countTick.idleTerminate.acceptLevel l) := by
  rw [exec_rxTick_of_ne hl, State.transition, classify_countTick, h]

end tick

/-- Settles O36: a held tick and a noise transition both end once they have counted. -/
theorem heldAndNoiseTicksOnlyCount : Obligations.HeldAndNoiseTicksOnlyCount := by
  intro l s h
  by_cases hl : l = s.plvl
  · exact exec_rxTick_of_eq hl
  · exact exec_rxTick_of_noise hl (classify_eq_noise_iff.mpr (h.resolve_left hl))

/-- Settles O37: one `raw_push`, with room and at capacity. -/
theorem singleTickPushesOneBit : Obligations.SingleTickPushesOneBit := by
  intro l s hc hl hlo hhi
  rw [exec_rxTick_of_single hl ((classify_eq_single_iff hc).mpr ⟨hlo, hhi⟩)]
  constructor
  · intro h
    rw [State.rawPush_of_lt (s := s.countTick) h]
    rfl
  · intro h
    rw [State.rawPush_of_le (s := s.countTick) h]
    rfl

/-- `raw_push` of one bit twice with two free places (42_pulse_classifier.md R146). -/
theorem State.rawPush_rawPush_of_two_free {s : State} (h : s.raw.length + 2 ≤ s.cfg.rawCap)
    (x : Bool) : (s.rawPush x).rawPush x = { s with raw := s.raw ++ [x, x] } := by
  have hfirst := State.rawPush_of_lt (s := s) (by omega) x
  have hsecond : (s.rawPush x).raw.length < (s.rawPush x).cfg.rawCap := by
    simp [hfirst]; omega
  rw [State.rawPush_of_lt hsecond, hfirst]
  simp

/-- `raw_push` twice with one free place (42_pulse_classifier.md R146, R151 corner case (b)). -/
theorem State.rawPush_rawPush_of_one_free {s : State} (h : s.raw.length + 1 = s.cfg.rawCap)
    (x : Bool) : (s.rawPush x).rawPush x = { s with raw := s.raw ++ [x], rawOvf := true } := by
  have hfirst := State.rawPush_of_lt (s := s) (by omega) x
  have hsecond : (s.rawPush x).cfg.rawCap ≤ (s.rawPush x).raw.length := by
    simp [hfirst]; omega
  rw [State.rawPush_of_le hsecond, hfirst]

/-- `raw_push` twice at capacity (42_pulse_classifier.md R146). -/
theorem State.rawPush_rawPush_of_full {s : State} (h : s.cfg.rawCap ≤ s.raw.length) (x : Bool) :
    (s.rawPush x).rawPush x = { s with rawOvf := true } := by
  rw [State.rawPush_of_le h]
  exact State.rawPush_of_le (s := { s with rawOvf := true }) h x

/-- Settles O38: two `raw_push`es, with two, one and no free place. -/
theorem doubleTickPushesTwoBits : Obligations.DoubleTickPushesTwoBits := by
  intro l s hc hl hlo hhi
  rw [exec_rxTick_of_double hl ((classify_eq_double_iff hc).mpr ⟨hlo, hhi⟩)]
  refine ⟨fun h => ?_, fun h => ?_, fun h => ?_⟩
  · rw [State.rawPush_rawPush_of_two_free (s := s.countTick) h]
    rfl
  · rw [State.rawPush_rawPush_of_one_free (s := s.countTick) h]
    rfl
  · rw [State.rawPush_rawPush_of_full (s := s.countTick) h]
    rfl

/-! ### The end of an attempt -/

/-- The pipeline neither reads nor writes PCNT (42_pulse_classifier.md R144). -/
theorem State.decodePipeline_pcnt_comm (s : State) (c : Byte) :
    { s with pcnt := c }.decodePipeline = { s.decodePipeline with pcnt := c } := by
  rcases Bool.eq_false_or_eq_true s.rawOvf with h | h
  · rw [State.decodePipeline_of_rawOvf { s with pcnt := c } h, s.decodePipeline_of_rawOvf h]
  · by_cases hn : s.cfg.decCap < wholeBytes s.raw s.syncScan.dstart
    · rw [State.decodePipeline_of_decOvf { s with pcnt := c } h hn,
        s.decodePipeline_of_decOvf h hn]
      rfl
    · have hfits := Nat.not_lt.mp hn
      rw [State.decodePipeline_of_fits { s with pcnt := c } h hfits,
        s.decodePipeline_of_fits h hfits]
      rfl

/-- `idle_terminate` on RAW too short to decode (42_pulse_classifier.md R148). -/
theorem State.idleTerminate_of_le {s : State} (h : s.raw.length ≤ s.cfg.trigMin) :
    s.idleTerminate = s.rawClear := by
  rw [State.idleTerminate, if_neg (Nat.not_lt.mpr h)]

/-- `idle_terminate` on RAW long enough to decode (42_pulse_classifier.md R148). -/
theorem State.idleTerminate_of_lt {s : State} (h : s.cfg.trigMin < s.raw.length) :
    s.idleTerminate = s.decodePipeline.rawClear := by
  rw [State.idleTerminate, if_pos h]

/-- Settles O39: `idle_terminate` without and with a run of the pipeline, which the count before it
does not disturb. -/
theorem idleTickTerminatesTheAttempt : Obligations.IdleTickTerminatesTheAttempt := by
  intro l s hl hn h1 h2
  rw [exec_rxTick_of_idle hl (classify_eq_idle_iff.mpr ⟨hn, h1, h2⟩)]
  constructor
  · intro h
    rw [State.idleTerminate_of_le (s := s.countTick) h]
    rfl
  · intro h
    refine ⟨_, rfl, ?_⟩
    rw [State.idleTerminate_of_lt (s := s.countTick) h, State.countTick,
      State.decodePipeline_pcnt_comm]
    rfl

/-! ### The duration of a held level -/

/-- `s` with the count that `k` held samples leave from 0: min(k, PCNT_MAX)
(42_pulse_classifier.md R149). -/
def State.heldFor (s : State) (k : Nat) : State :=
  { s with pcnt := BitVec.ofNat 8 (min k s.cfg.pcntMax.toNat) }

/-- No sample held yet leaves a count of 0 as it is. -/
theorem State.heldFor_zero {s : State} (h : s.pcnt = 0#8) : s.heldFor 0 = s := by
  rw [State.heldFor, Nat.zero_min, ← h]

/-- A tick counts one sample more, up to PCNT_MAX (42_pulse_classifier.md R142). -/
theorem State.countTick_heldFor (s : State) (k : Nat) :
    (s.heldFor k).countTick = s.heldFor (k + 1) := by
  have hmax := s.cfg.pcntMax.isLt
  have hcount : min ((s.heldFor k).pcnt.toNat + 1) s.cfg.pcntMax.toNat =
      min (k + 1) s.cfg.pcntMax.toNat := by
    simp only [State.heldFor, BitVec.toNat_ofNat]
    omega
  exact congrArg (fun n => { s with pcnt := BitVec.ofNat 8 n }) hcount

/-- A run of commands goes on from where its first command ends. -/
theorem runCommands_cons {i : Instr} {s t : State} (h : exec i s = .next t) (is : List Instr) :
    runCommands (i :: is) s = runCommands is t := by
  simp only [runCommands, h]

/-- `k` ticks at the stored level count `k` samples (42_pulse_classifier.md R149). -/
theorem runCommands_held_ticks {s : State} (h : s.pcnt = 0#8) (k : Nat) :
    runCommands (List.replicate k (.rxTick s.plvl)) s = .next (s.heldFor k) := by
  induction k with
  | zero => exact congrArg _ (State.heldFor_zero h).symm
  | succ k ih =>
    have htick : exec (.rxTick s.plvl) (s.heldFor k) = .next (s.heldFor (k + 1)) :=
      (exec_rxTick_of_eq rfl).trans (congrArg _ (s.countTick_heldFor k))
    rw [List.replicate_succ', runCommands_append ih, runCommands_cons htick]
    rfl

/-- Settles O40: after `n - 1` held ticks the next tick counts sample `n` and is a transition. -/
theorem heldLevelIsClassifiedByItsLength : Obligations.HeldLevelIsClassifiedByItsLength := by
  rintro x s n rfl h hn
  have hheld := runCommands_held_ticks h (n - 1)
  have htick : exec (.rxTick (!s.plvl)) (s.heldFor (n - 1)) =
      .next ((s.heldFor n).transition (!s.plvl)) := by
    have hne : (!s.plvl) ≠ (s.heldFor (n - 1)).plvl := Bool.not_ne_self s.plvl
    rw [exec_rxTick_of_ne hne, State.countTick_heldFor, Nat.sub_add_cancel hn]
  refine ⟨hheld, ?_⟩
  rw [runCommands_append hheld, runCommands_cons htick]
  rfl

end Sys2Proof.Machine
end

section
/-! PROOFS. The frame synchronizer, and the statements of 43_frame_sync.md. -/

namespace Sys2Proof.Machine

open Terms

/-! ### The shift register -/

/-- The shift rule brings in 0 for a raw 1 and 1 for a raw 0 (43_frame_sync.md R171). -/
theorem syncShift_eq_or (sr : Byte) (r : Bool) :
    syncShift sr r = (sr <<< 1) ||| (if r then 0#8 else 1#8) := by
  cases r <;> rfl

/-- SYNC_SR after `k` raw bits is the shift rule folded over them (43_frame_sync.md R171). -/
theorem syncSrAfter_eq_foldl (s : State) (k : Nat) :
    syncSrAfter s k = (s.raw.take k).foldl syncShift s.cfg.syncSrInit := by
  rw [syncSrAfter, funext₂ syncShift_eq_or]

/-- The shift rule is `BitVec.shiftConcat` of the inverse of the raw bit (43_frame_sync.md R171). -/
theorem syncShift_eq_shiftConcat (sr : Byte) (r : Bool) : syncShift sr r = sr.shiftConcat (!r) := by
  refine BitVec.eq_of_getLsbD_eq fun i hi => ?_
  rw [syncShift, BitVec.getLsbD_or, getLsbD_bitAt _ _ _ _ hi, BitVec.getLsbD_shiftLeft,
    BitVec.getLsbD_shiftConcat]
  cases i with
  | zero => simp
  | succ i => simp [hi]

/-- A shift at most doubles the register and adds 1. -/
theorem syncShift_toNat_le (sr : Byte) (r : Bool) : (syncShift sr r).toNat ≤ 2 * sr.toNat + 1 := by
  rw [syncShift_eq_shiftConcat, BitVec.toNat_shiftConcat, Nat.shiftLeft_eq]
  have hbit := Bool.toNat_le (!r)
  omega

/-- From a start value `sr` the register stays below `(sr + 1) * 2 ^ n` over `n` raw bits. -/
theorem foldl_syncShift_lt (sr : Byte) (bits : List Bool) :
    (bits.foldl syncShift sr).toNat < (sr.toNat + 1) * 2 ^ bits.length := by
  induction bits generalizing sr with
  | nil => simp
  | cons r rest ih =>
    have hshift : (syncShift sr r).toNat + 1 ≤ (sr.toNat + 1) * 2 := by
      have := syncShift_toNat_le sr r
      omega
    calc (rest.foldl syncShift (syncShift sr r)).toNat
      _ < ((syncShift sr r).toNat + 1) * 2 ^ rest.length := ih _
      _ ≤ (sr.toNat + 1) * 2 * 2 ^ rest.length := Nat.mul_le_mul_right _ hshift
      _ = (sr.toNat + 1) * 2 ^ (rest.length + 1) := by rw [Nat.mul_assoc, Nat.pow_succ']

/-- From 0 the register stays below `2 ^ k` over the first `k` raw bits (43_frame_sync.md R173). -/
theorem syncSrAfter_lt_two_pow {s : State} (hinit : s.cfg.syncSrInit = 0x00#8) (k : Nat) :
    (syncSrAfter s k).toNat < 2 ^ k := by
  calc (syncSrAfter s k).toNat
    _ < (0 + 1) * 2 ^ (s.raw.take k).length := by
      rw [syncSrAfter_eq_foldl, hinit]
      exact foldl_syncShift_lt _ _
    _ ≤ 2 ^ k := by
      rw [Nat.zero_add, Nat.one_mul]
      exact Nat.pow_le_pow_right Nat.two_pos (List.length_take_le _ _)

/-! ### What a scan answers -/

/-- A scan stops at the first index after which the register equals the pattern
(43_frame_sync.md R172). -/
theorem scanFrom_of_first_match {p sr : Byte} {raw : List Bool} {k : Nat} (hk : k < raw.length)
    (hp : (raw.take (k + 1)).foldl syncShift sr = p)
    (hfirst : ∀ j < k, (raw.take (j + 1)).foldl syncShift sr ≠ p) (i : Nat) :
    scanFrom p sr i raw = ⟨p, i + k + 1, true⟩ := by
  induction raw generalizing sr i k with
  | nil => exact absurd hk (Nat.not_lt_zero k)
  | cons r rest ih =>
    cases k with
    | zero => exact if_pos hp
    | succ k =>
      have hne : syncShift sr r ≠ p := hfirst 0 k.succ_pos
      have hrest := ih (Nat.lt_of_succ_lt_succ hk) hp
        (fun j hj => hfirst (j + 1) (Nat.succ_lt_succ hj)) (i + 1)
      rw [scanFrom, if_neg hne, hrest, Nat.add_right_comm i 1 k, Nat.add_assoc i k 1]

/-- A scan that meets no match reports none and keeps the register of all its bits
(43_frame_sync.md R172). -/
theorem scanFrom_of_no_match {p sr : Byte} {raw : List Bool}
    (hne : ∀ j < raw.length, (raw.take (j + 1)).foldl syncShift sr ≠ p) (i : Nat) :
    scanFrom p sr i raw = ⟨raw.foldl syncShift sr, 0, false⟩ := by
  induction raw generalizing sr i with
  | nil => rfl
  | cons r rest ih =>
    have hshift : syncShift sr r ≠ p := hne 0 (Nat.succ_pos _)
    rw [scanFrom, if_neg hshift]
    exact ih (fun j hj => hne (j + 1) (Nat.succ_lt_succ hj)) (i + 1)

/-- SYNC_SCAN is `sync_scan` (43_frame_sync.md R175). -/
theorem exec_syncScan (s : State) : exec .syncScan s = .next s.syncScan := rfl

/-- SYNC_SCAN with a first match at index `i` (43_frame_sync.md R172). -/
theorem exec_syncScan_of_first_match {s : State} {i : Nat} (hi : i < s.raw.length)
    (hp : syncSrAfter s (i + 1) = s.cfg.syncPattern)
    (hfirst : ∀ j < i, syncSrAfter s (j + 1) ≠ s.cfg.syncPattern) :
    exec .syncScan s = .next { s with
      syncSr := s.cfg.syncPattern, dstart := BitVec.ofNat 16 (i + 1), syncFound := true } := by
  have hscan : scanRaw s.cfg s.raw = ⟨s.cfg.syncPattern, i + 1, true⟩ := by
    simp only [syncSrAfter_eq_foldl] at hp hfirst
    rw [scanRaw, scanFrom_of_first_match hi hp hfirst, Nat.zero_add]
  rw [exec_syncScan, State.syncScan, hscan, countWord]

/-- SYNC_SCAN without a match (43_frame_sync.md R172). -/
theorem exec_syncScan_of_no_match {s : State}
    (hne : ∀ j < s.raw.length, syncSrAfter s (j + 1) ≠ s.cfg.syncPattern) :
    exec .syncScan s = .next { s with
      syncSr := syncSrAfter s s.raw.length, dstart := 0#16, syncFound := false } := by
  have hscan : scanRaw s.cfg s.raw = ⟨syncSrAfter s s.raw.length, 0, false⟩ := by
    simp only [syncSrAfter_eq_foldl] at hne ⊢
    rw [scanRaw, scanFrom_of_no_match hne, List.take_length]
  rw [exec_syncScan, State.syncScan, hscan, countWord]

/-- Settles O43: the scan's two outcomes, each a lemma by induction over RAW. -/
theorem syncScanTakesTheFirstMatch : Obligations.SyncScanTakesTheFirstMatch :=
  fun _ => ⟨fun _ hi hp hfirst => exec_syncScan_of_first_match hi hp hfirst,
    fun hne => exec_syncScan_of_no_match hne⟩

/-! ### No match before 8 bits -/

/-- With the defaults a register equal to the pattern has taken in 8 bits: after fewer it is
below `2 ^ 7`, and the pattern is not (43_frame_sync.md R173). -/
theorem eight_le_of_syncSrAfter_eq {s : State} {k : Nat} (hinit : s.cfg.syncSrInit = 0x00#8)
    (hk : syncSrAfter s k = 0xA5#8) : 8 ≤ k := by
  have hlt : (syncSrAfter s k).toNat < 2 ^ k := syncSrAfter_lt_two_pow hinit k
  by_contra hshort
  have hpow : 2 ^ k ≤ 2 ^ 7 := Nat.pow_le_pow_right Nat.two_pos (by omega)
  have hval : (syncSrAfter s k).toNat = 165 := congrArg BitVec.toNat hk
  omega

/-- Settles O44: a match at index `i` gives DSTART = `i + 1`, which is at least 8 by the bound on
the register; without a match SYNC_FOUND is 0. -/
theorem noSyncMatchBeforeEightBits : Obligations.NoSyncMatchBeforeEightBits := by
  intro s hinit hpat hlen
  by_cases h : ∃ i, i < s.raw.length ∧ syncSrAfter s (i + 1) = s.cfg.syncPattern
  · obtain ⟨hi, hp⟩ := Nat.find_spec h
    have hfirst : ∀ j < Nat.find h, syncSrAfter s (j + 1) ≠ s.cfg.syncPattern :=
      fun j hj hj' => Nat.find_min h hj ⟨hj.trans hi, hj'⟩
    refine ⟨_, exec_syncScan_of_first_match hi hp hfirst, fun _ => ?_⟩
    have h8 : 8 ≤ Nat.find h + 1 := eight_le_of_syncSrAfter_eq hinit (hp.trans hpat)
    have hdstart : (BitVec.ofNat 16 (Nat.find h + 1)).toNat = Nat.find h + 1 :=
      (BitVec.toNat_ofNat ..).trans (Nat.mod_eq_of_lt (by omega))
    exact h8.trans_eq hdstart.symm
  · refine ⟨_, exec_syncScan_of_no_match fun j hj hj' => h ⟨j, hj, hj'⟩, fun hfound => ?_⟩
    cases hfound

end Sys2Proof.Machine
end

section
/-! PROOFS. The receive pipeline as RX_DECODE runs it, and the statements of
44_packet_framer.md R210 to R220 on it. -/

namespace Sys2Proof.Machine

open Terms

/-! ### The parse of the decoded bytes -/

/-- CRC_OK for two bytes or more (44_packet_framer.md R214). -/
theorem parseCrcOk_of_two_le {dec : List Byte} (h : 2 ≤ dec.length) (cfg : Config) :
    parseCrcOk cfg dec = decide (parseCalc cfg dec = parseRecv dec) := by
  rw [parseCrcOk, decide_eq_true h, Bool.true_and]

/-- With fewer than two bytes there is no trailer (44_packet_framer.md R214). -/
theorem parse_of_lt_two {dec : List Byte} (h : dec.length < 2) (cfg : Config) :
    parseRecv dec = 0#16 ∧ parseCalc cfg dec = crc16 cfg cfg.crcSeed [] ∧
      parseCrcOk cfg dec = false := by
  have hlen : ¬ 2 ≤ dec.length := Nat.not_le.mpr h
  have hpre : dec.take (dec.length - 2) = [] := by
    rw [Nat.sub_eq_zero_of_le h.le, List.take_zero]
  refine ⟨if_neg hlen, ?_, ?_⟩
  · rw [parseCalc, hpre]
  · rw [parseCrcOk, decide_eq_false hlen, Bool.false_and]

/-- PLEN, its two cases written out (44_packet_framer.md R215). -/
theorem parsePlen_eq (dec : List Byte) :
    parsePlen dec = if 3 ≤ dec.length then BitVec.ofNat 16 (dec.length - 3) else 0#16 := by
  split
  case isTrue h => rfl
  case isFalse h => rw [parsePlen, Nat.sub_eq_zero_of_le (by omega)]; rfl

/-- The events of the parse, one after the other; the bytes of a Record leave out LEN and the
trailer (44_packet_framer.md R216). -/
theorem parseEvents_eq (cfg : Config) (dec : List Byte) :
    parseEvents cfg dec =
      (if parseCrcOk cfg dec then .crcOk (parseCalc cfg dec)
        else .crcMismatch (parseCalc cfg dec) (parseRecv dec)) ::
      ((if parseLenOk cfg dec then [] else [.lenMismatch (BitVec.ofNat 16 dec.length)]) ++
       (if parseCrcOk cfg dec && parseLenOk cfg dec then
          [.record ((dec.drop 1).take (dec.length - 3))] else [])) := by
  rw [parseEvents, List.drop_take, Nat.sub_sub, List.append_assoc]
  rfl

/-- The length gate reports once at most, right after the CRC check (44_packet_framer.md R215). -/
theorem parseEvents_lenMismatch (cfg : Config) (dec : List Byte) :
    ∃ c rest, parseEvents cfg dec = c ::
        ((if parseLenOk cfg dec then [] else [.lenMismatch (BitVec.ofNat 16 dec.length)]) ++ rest) ∧
      ∀ n, Event.lenMismatch n ∉ rest :=
  ⟨_, _, parseEvents_eq cfg dec, fun n => by split <;> simp⟩

/-! ### One rule per path of RX_DECODE -/

/-- RX_DECODE on an attempt that lost raw bits (44_packet_framer.md R212). -/
theorem exec_rxDecode_of_rawOvf {s : State} (h : s.rawOvf = true) :
    exec .rxDecode s = .next { s with
      rxDone := true, decOvf := false, dec := [], plen := 0#16, rxcrcCalc := 0#16
      rxcrcRecv := 0#16, crcOk := false, lenOk := false, recValid := false
      raw := [], rawOvf := false, trace := s.trace ++ [.overflow .raw] } := by
  rw [exec, execRxDecode, s.decodePipeline_of_rawOvf h, State.rawClear]

/-- RX_DECODE on an attempt that does not fit DEC (44_packet_framer.md R212). -/
theorem exec_rxDecode_of_decOvf {s : State} (h : s.rawOvf = false)
    (hn : s.cfg.decCap < bytesAfterScan s) :
    exec .rxDecode s = .next { s.syncScan with
      rxDone := true, decOvf := true, dec := [], plen := 0#16, rxcrcCalc := 0#16
      rxcrcRecv := 0#16, crcOk := false, lenOk := false, recValid := false
      raw := [], rawOvf := false, trace := s.trace ++ [s.decodedEvent, .overflow .dec] } := by
  rw [exec, execRxDecode, s.decodePipeline_of_decOvf h hn, State.rawClear]

/-- What RX_DECODE leaves of an attempt it decodes (44_packet_framer.md R210 to R216, R220). -/
def State.decodedAttempt (s : State) : State :=
  { s.syncScan with
    rxDone := true, decOvf := false, dec := s.attemptBytes
    rxcrcRecv := parseRecv s.attemptBytes, rxcrcCalc := parseCalc s.cfg s.attemptBytes
    crcOk := parseCrcOk s.cfg s.attemptBytes, plen := parsePlen s.attemptBytes
    lenOk := parseLenOk s.cfg s.attemptBytes
    recValid := parseCrcOk s.cfg s.attemptBytes && parseLenOk s.cfg s.attemptBytes
    raw := [], rawOvf := false
    trace := s.trace ++ s.decodedEvent :: parseEvents s.cfg s.attemptBytes
    draws := if s.cfg.manPolicy = .draw then s.draws + bytesAfterScan s else s.draws }

/-- RX_DECODE on an attempt it decodes. -/
theorem exec_rxDecode_of_fits {s : State} (h : s.rawOvf = false)
    (hn : bytesAfterScan s ≤ s.cfg.decCap) : exec .rxDecode s = .next s.decodedAttempt := by
  rw [exec, execRxDecode, s.decodePipeline_of_fits h hn]
  rfl

/-- Settles O45: the two overflow paths, and 512 raw bits are at most 32 whole bytes. -/
theorem receiveOverflowsInvalidateTheResults :
    Obligations.ReceiveOverflowsInvalidateTheResults := by
  refine ⟨fun s h => exec_rxDecode_of_rawOvf h, fun s h hn => exec_rxDecode_of_decOvf h hn,
    fun s hraw hdec hlen => ?_⟩
  rw [bytesAfterScan]
  omega

/-! ### The decoded bytes -/

/-- Decoded byte `j` is the one at `DSTART + 16 * j` (44_packet_framer.md R211). -/
theorem byteAt_decodeBytes (policy : ManPolicy) (n : Nat) (raw : List Bool) (d : Half) {nb j : Nat}
    (hj : j < nb) :
    byteAt (decodeBytes policy n raw d nb) j =
      manDecRaw policy (Config.freeByte (n + j)) raw (d.toNat + 16 * j) := by
  simp [byteAt, decodeBytes, hj]

/-- A bit decoded from RAW is the first sample of its pair, when the pair is valid or the policy is
FIRST_SAMPLE (41_manchester.md R124, R125). -/
theorem getLsbD_manDecRaw_of_first {policy : ManPolicy} {raw : List Bool} {p k : Nat} (hk : k < 8)
    (h : rawAt raw (p + 2 * k) ≠ rawAt raw (p + 2 * k + 1) ∨ policy = .firstSample)
    (free : Byte) : (manDecRaw policy free raw p).getLsbD (7 - k) = rawAt raw (p + 2 * k) := by
  have hpair : 7 - (7 - k) = k := by omega
  rw [getLsbD_manDecRaw _ _ _ _ _ (by omega), hpair]
  obtain hne | rfl := h
  · exact pairDec_of_ne hne _ _
  · exact pairDec_firstSample _ _ _

/-- Settles O46: byte `j` ends at `DSTART + 16 * (j + 1)`, which is at most RAWN, as `j` is below
`(RAWN - DSTART) / 16`. -/
theorem rxDecodeDecodesTheWholeBytes : Obligations.RxDecodeDecodesTheWholeBytes := by
  intro s h hn
  refine ⟨_, exec_rxDecode_of_fits h hn, decodeBytes_length .., fun j k hj hk => ⟨?_, fun hp => ?_⟩,
    rfl, fun hfirst => ?_⟩
  · rw [bytesAfterScan] at hj
    omega
  · have hbyte := byteAt_decodeBytes s.cfg.manPolicy s.draws s.raw s.syncScan.dstart hj
    exact (congrArg (BitVec.getLsbD · (7 - k)) hbyte).trans (getLsbD_manDecRaw_of_first hk hp _)
  · simp [State.decodedAttempt, hfirst]

/-! ### The CRC check, the length gate and the events -/

/-- Settles O47, with the parse of two bytes or more and of fewer. -/
theorem rxDecodeChecksTheCrc : Obligations.RxDecodeChecksTheCrc := by
  intro s h hn
  exact ⟨_, exec_rxDecode_of_fits h hn,
    fun hlen => ⟨if_pos hlen, rfl, parseCrcOk_of_two_le hlen s.cfg⟩,
    fun hlen => parse_of_lt_two hlen s.cfg,
    _, _, congrArg (s.trace ++ s.decodedEvent :: ·) (parseEvents_eq s.cfg s.attemptBytes)⟩

/-- Settles O48: what follows the gate's event is a Record or nothing. -/
theorem rxDecodeGatesTheLength : Obligations.RxDecodeGatesTheLength := by
  intro s h hn
  obtain ⟨c, rest, hevents, hrest⟩ := parseEvents_lenMismatch s.cfg s.attemptBytes
  refine ⟨_, exec_rxDecode_of_fits h hn, parsePlen_eq _, (Bool.decide_and _ _).symm,
    s.decodedEvent, c, rest, ?_, hrest⟩
  simp only [State.decodedAttempt, hevents, List.append_assoc]
  rfl

/-- Settles O49: the events of the three paths of RX_DECODE. -/
theorem rxDecodeReportsInOrder : Obligations.RxDecodeReportsInOrder := by
  refine ⟨fun s h hn => ⟨_, exec_rxDecode_of_fits h hn, rfl, ?_⟩,
    fun s h hn => ⟨_, exec_rxDecode_of_decOvf h hn, rfl⟩,
    fun s h => ⟨_, exec_rxDecode_of_rawOvf h, rfl⟩⟩
  simp only [State.decodedAttempt, parseEvents_eq, List.append_assoc]
  rfl

end Sys2Proof.Machine
end

section
/-! PROOFS. The transmit side: the four transmit commands case by case, and the statements of
44_packet_framer.md R191 to R201. -/

namespace Sys2Proof.Machine

open Terms

/-! ### The payload and the frame -/

/-- Settles O50: TX_BEGIN is a command of format F0, and its word is its OPC over zeros. -/
theorem txBeginStartsAPayload : Obligations.TxBeginStartsAPayload :=
  ⟨fun _ => rfl, onlyWordOf_encode (i := .txBegin) rfl⟩

/-- Settles O51: TX_PUSH is `tx_push`, with room and at capacity. -/
theorem txPushNeverOverruns : Obligations.TxPushNeverOverruns :=
  fun _ _ => ⟨fun h => congrArg _ (if_pos h), fun h => congrArg _ (if_neg (Nat.not_lt.mpr h))⟩

/-- A refused TX_BUILD (44_packet_framer.md R195). -/
theorem exec_txBuild_of_refused {s : State} (h : s.txBusy = true ∨ s.txOvf = true) :
    exec .txBuild s = .next s.commandError :=
  congrArg _ (if_pos (Bool.or_eq_true_iff.mpr h))

/-- An accepted TX_BUILD (44_packet_framer.md R200). -/
theorem exec_txBuild_of_accepted {s : State} (hb : s.txBusy = false) (ho : s.txOvf = false) :
    exec .txBuild s = .next s.startFrame := by
  rw [exec, execTxBuild, hb, ho]
  rfl

/-- Settles O52: a refused TX_BUILD is `commandError`. -/
theorem txBuildIsRefusedWhileBusyOrOverflowed :
    Obligations.TxBuildIsRefusedWhileBusyOrOverflowed :=
  fun _ h => exec_txBuild_of_refused h

/-- LEN taken modulo 256 beforehand (44_packet_framer.md R191). -/
theorem lenByte_eq_ofNat_mod (cfg : Config) (p : List Byte) :
    lenByte cfg p = BitVec.ofNat 8 ((p.length + cfg.lenBias) % 256) :=
  BitVec.eq_of_toNat_eq (by simp [lenByte])

/-- The low byte of a CRC (20_memory.md R61). -/
theorem extractLsb'_zero_eight (c : Half) : c.extractLsb' 0 8 = c.setWidth 8 :=
  BitVec.eq_of_toNat_eq (by simp)

/-- The high byte of a CRC (20_memory.md R61). -/
theorem extractLsb'_eight_eight (c : Half) : c.extractLsb' 8 8 = (c >>> 8).setWidth 8 :=
  BitVec.eq_of_toNat_eq (by simp)

/-- A frame without its preamble and sync byte: what a receiver decodes
(44_packet_framer.md R191). -/
def frameBody (cfg : Config) (p : List Byte) : List Byte :=
  [lenByte cfg p] ++ p ++ [(frameCrc cfg p).setWidth 8, (frameCrc cfg p >>> 8).setWidth 8]

/-- A frame is the preamble, the sync byte and the body (44_packet_framer.md R191). -/
theorem frame_eq (cfg : Config) (p : List Byte) :
    frame cfg p = [cfg.preamble0, cfg.preamble1, cfg.syncByte] ++ frameBody cfg p := by
  rw [frame, extractLsb'_zero_eight, extractLsb'_eight_eight]
  rfl

/-- Settles O53: the frame written is the one the statement writes out. -/
theorem txBuildWritesTheFrame : Obligations.TxBuildWritesTheFrame := by
  intro s hb ho
  dsimp only
  rw [exec_txBuild_of_accepted hb ho, State.startFrame, frame_eq, frameBody, frameCrc,
    lenByte_eq_ofNat_mod]
  rfl

/-! ### One rule per case of TX_STEP -/

/-- TX_STEP with no frame in progress (44_packet_framer.md R197). -/
theorem exec_txStep_of_idle {s : State} (hb : s.txBusy = false) :
    exec .txStep s = .next { s with txOut := s.cfg.idleLevel } := by
  rw [exec, execTxStep, hb]
  rfl

/-- TX_STEP within a byte (44_packet_framer.md R197). -/
theorem exec_txStep_within_byte {s : State} (hb : s.txBusy = true) (hh : s.txhalf.toNat < 15) :
    exec .txStep s = .next { s with txOut := s.nextLineBit, txhalf := s.txhalf + 1#4 } := by
  have hne : s.txhalf ≠ 15#4 := fun h => by simp [h] at hh
  rw [exec, execTxStep, if_pos hb, State.advanceTx, if_neg hne]

/-- TX_STEP at the end of a byte (44_packet_framer.md R197). -/
theorem exec_txStep_at_byte_end {s : State} (hb : s.txBusy = true) (hh : s.txhalf.toNat = 15) :
    exec .txStep s = .next { s with
      txOut := s.nextLineBit, txhalf := 0#4, txbyte := s.txbyte + 1#16
      txBusy := !decide ((s.txbyte + 1#16).toNat = s.fbuf.length) } := by
  have heq : s.txhalf = 15#4 := BitVec.eq_of_toNat_eq hh
  rw [exec, execTxStep, if_pos hb, State.advanceTx, if_pos heq, hb]
  rfl

/-- Settles O54: the rule of each case; at the end of a byte TX_BUSY says whether the frame goes
on. -/
theorem txStepDrivesOneLineBit : Obligations.TxStepDrivesOneLineBit := by
  refine ⟨fun s hb => exec_txStep_of_idle hb, fun s hb => ⟨s.nextLineBit, rfl,
    exec_txStep_within_byte hb, fun hh hmore => ?_, fun hh hend => ?_⟩⟩
  · rw [exec_txStep_at_byte_end hb hh, decide_eq_false hmore, hb]
    rfl
  · rw [exec_txStep_at_byte_end hb hh, decide_eq_true hend]
    rfl

/-! ### A frame on the line -/

/-- `s` after `k` line bits of the frame in FBUF have been driven, the last one `out`
(44_packet_framer.md R197). -/
def State.sentBits (s : State) (k : Nat) (out : Bool) : State :=
  { s with txOut := out, txbyte := BitVec.ofNat 16 (k / 16), txhalf := BitVec.ofNat 4 (k % 16)
           txBusy := decide (k < 16 * s.fbuf.length) }

/-- A frame just built, before its first line bit. -/
theorem State.sentBits_zero {s : State} (hb : s.txBusy = true) (hbyte : s.txbyte = 0#16)
    (hhalf : s.txhalf = 0#4) (hpos : 0 < s.fbuf.length) : s.sentBits 0 s.txOut = s := by
  have hbusy : decide (0 < 16 * s.fbuf.length) = s.txBusy := by simp [hb, hpos]
  rw [State.sentBits, hbusy, ← hbyte, ← hhalf]

/-- TXHALF after `k` line bits, as a number. -/
theorem State.sentBits_txhalf_toNat (s : State) (k : Nat) (out : Bool) :
    (s.sentBits k out).txhalf.toNat = k % 16 :=
  (BitVec.toNat_ofNat ..).trans (Nat.mod_eq_of_lt (by omega))

section
variable {s : State} {k : Nat} (hk : k < 16 * s.fbuf.length) (hlen : s.fbuf.length ≤ 0x1000)
include hk hlen

/-- TXBYTE after `k` line bits, as a number. -/
theorem State.sentBits_txbyte_toNat (out : Bool) : (s.sentBits k out).txbyte.toNat = k / 16 :=
  (BitVec.toNat_ofNat ..).trans (Nat.mod_eq_of_lt (by omega))

/-- After `k` line bits the sequencer is at line bit `k` of the image (44_packet_framer.md R192,
R197). -/
theorem State.nextLineBit_sentBits (out : Bool) :
    (s.sentBits k out).nextLineBit = (lineImage s.fbuf).getD k false := by
  have hbit := getElem?_lineImage s.fbuf (k / 16) (k % 16) (by omega) (by omega)
  rw [Nat.div_add_mod] at hbit
  rw [State.nextLineBit, State.sentBits_txbyte_toNat hk hlen, State.sentBits_txhalf_toNat,
    List.getD_eq_getElem?_getD, hbit]
  rfl

/-- One TX_STEP drives one line bit more (44_packet_framer.md R197). -/
theorem exec_txStep_sentBits (out : Bool) :
    exec .txStep (s.sentBits k out) =
      .next (s.sentBits (k + 1) ((lineImage s.fbuf).getD k false)) := by
  have hbusy : (s.sentBits k out).txBusy = true := decide_eq_true hk
  have hhalf := s.sentBits_txhalf_toNat k out
  rcases Nat.lt_or_ge (k % 16) 15 with hlt | hge
  · have hsame : (k + 1) / 16 = k / 16 := by omega
    have hnext : (k + 1) % 16 = k % 16 + 1 := by omega
    have hmore : k + 1 < 16 * s.fbuf.length := by omega
    rw [exec_txStep_within_byte hbusy (by omega), State.nextLineBit_sentBits hk hlen]
    simp [State.sentBits, hsame, hnext, hmore, hk, BitVec.ofNat_add]
  · have hnext : (k + 1) / 16 = k / 16 + 1 := by omega
    have hzero : (k + 1) % 16 = 0 := by omega
    have hbyte : (BitVec.ofNat 16 (k / 16) + 1#16).toNat = k / 16 + 1 := by
      rw [← BitVec.ofNat_add, BitVec.toNat_ofNat]
      omega
    have hend : k / 16 + 1 ≠ s.fbuf.length ↔ k + 1 < 16 * s.fbuf.length := by omega
    rw [exec_txStep_at_byte_end hbusy (by omega), State.nextLineBit_sentBits hk hlen]
    simp [State.sentBits, hnext, hzero, hbyte, ← hend, BitVec.ofNat_add]

end

/-- The steps of a frame just built, up to its last line bit (44_packet_framer.md R201). -/
theorem runCommands_txSteps {s : State} (hlen : s.fbuf.length ≤ 0x1000) {out : Bool}
    (hstart : s.sentBits 0 out = s) (k : Nat) (hk : k < 16 * s.fbuf.length) :
    runCommands (List.replicate (k + 1) .txStep) s =
      .next (s.sentBits (k + 1) ((lineImage s.fbuf).getD k false)) := by
  induction k with
  | zero =>
    have hfirst := exec_txStep_sentBits hk hlen out
    rw [hstart] at hfirst
    exact runCommands_cons hfirst []
  | succ k ih =>
    rw [List.replicate_succ', runCommands_append (ih (by omega)),
      runCommands_cons (exec_txStep_sentBits hk hlen _)]
    rfl

/-- Settles O55, by induction over the steps: after `k` line bits the sequencer is at line bit
`k`. -/
theorem txStepsSendTheLineImage : Obligations.TxStepsSendTheLineImage := by
  intro s k hb hbyte hhalf hlen hk hle
  have hstart := State.sentBits_zero hb hbyte hhalf (by omega)
  have hrun := runCommands_txSteps hlen hstart (k - 1) (by omega)
  rwa [Nat.sub_add_cancel hk] at hrun

end Sys2Proof.Machine
end

section
/-! PROOFS. The frame through the pipeline: what the receiver makes of the inverted line image of a
frame (44_packet_framer.md R221). -/

namespace Sys2Proof.Machine

open Terms

/-! ### The inverted line image and its bytes -/

/-- The raw bits of a frame that comes in whole: its line image, inverted
(44_packet_framer.md R221). -/
def rawImage (f : List Byte) : List Bool := (lineImage f).map (!·)

/-- A frame of n bytes is 16·n raw bits. -/
@[simp] theorem rawImage_length (f : List Byte) : (rawImage f).length = 16 * f.length := by
  simp [rawImage]

/-- The image of two parts of a frame. -/
theorem rawImage_append (f g : List Byte) : rawImage (f ++ g) = rawImage f ++ rawImage g := by
  simp [rawImage, lineImage]

/-- Raw bit `16 * j + k` of a frame is bit `15 - k` of byte `j`'s Manchester word, inverted. -/
theorem rawAt_rawImage {f : List Byte} {j k : Nat} (hj : j < f.length) (hk : k < 16) :
    rawAt (rawImage f) (16 * j + k) = !(manEnc (byteAt f j)).getLsbD (15 - k) := by
  rw [rawAt, rawImage, List.getD_eq_getElem?_getD, List.getElem?_map,
    getElem?_lineImage f j k hj hk]
  rfl

/-- The byte decoded at `16 * j` of a frame's image is byte `j`, whatever is drawn: every pair is
valid (41_manchester.md R125, R126). -/
theorem manDecRaw_rawImage (policy : ManPolicy) (free : Byte) {f : List Byte} {j : Nat}
    (hj : j < f.length) : manDecRaw policy free (rawImage f) (16 * j) = byteAt f j := by
  rw [← manDec_not_manEnc policy free (byteAt f j)]
  refine rawByteDecodesAsItsWord policy free _ _ _ fun k hk => ?_
  have hbit : 15 - k < 16 := by omega
  rw [rawAt_rawImage hj hk, BitVec.getLsbD_not]
  simp [hbit]

/-- From byte `f.length` on, the image of `f ++ g` decodes to `g` (44_packet_framer.md R211). -/
theorem decodeBytes_rawImage (policy : ManPolicy) (n : Nat) (f g : List Byte) {d : Half}
    (hd : d.toNat = 16 * f.length) :
    decodeBytes policy n (rawImage (f ++ g)) d g.length = g := by
  refine List.ext_getElem (decodeBytes_length ..) fun j hj hg => ?_
  have hmem : f.length + j < (f ++ g).length := by simpa using hg
  have hbyte : byteAt (f ++ g) (f.length + j) = g[j] := by simp [byteAt, hg]
  simp only [decodeBytes, List.getElem_map, List.getElem_range]
  rw [hd, ← Nat.mul_add, manDecRaw_rawImage _ _ hmem, hbyte]

/-! ### The sync scan of a frame -/

/-- Bits after the match are not looked at (43_frame_sync.md R172). -/
theorem scanFrom_append_of_found {p sr : Byte} {i : Nat} {as : List Bool}
    (h : (scanFrom p sr i as).found = true) (bs : List Bool) :
    scanFrom p sr i (as ++ bs) = scanFrom p sr i as := by
  induction as generalizing sr i with
  | nil => cases h
  | cons r as ih =>
    rw [List.cons_append, scanFrom, scanFrom]
    rw [scanFrom] at h
    split
    case isTrue => rfl
    case isFalse hne =>
      rw [if_neg hne] at h
      exact ih h

/-- The scan of the default preamble and sync byte matches at their last bit (43_frame_sync.md
R177). -/
theorem scanFrom_preamble :
    scanFrom 0xA5#8 0x00#8 0 (rawImage [0x00#8, 0x00#8, 0x03#8]) = ⟨0xA5#8, 48, true⟩ := by
  decide

/-! ### A body followed by its CRC -/

/-- The two bytes of a CRC, put together low byte first (20_memory.md R61). -/
theorem setWidth_or_shiftLeft (c : Half) :
    (c.setWidth 8).setWidth 16 ||| (((c >>> 8).setWidth 8).setWidth 16 <<< 8) = c := by
  refine BitVec.eq_of_getLsbD_eq fun j hj => ?_
  rcases Nat.lt_or_ge j 8 with hlt | hge
  · simp [hlt, hj]
  · have h8 : j - 8 < 8 := by omega
    have hsum : 8 + (j - 8) = j := by omega
    simp [hj, h8, hsum, Nat.not_lt.mpr hge]

/-- The trailer of a sequence followed by a CRC is the CRC (44_packet_framer.md R214). -/
theorem parseRecv_append_crc (d : List Byte) (c : Half) :
    parseRecv (d ++ [c.setWidth 8, (c >>> 8).setWidth 8]) = c := by
  have hlen : (d ++ [c.setWidth 8, (c >>> 8).setWidth 8]).length = d.length + 2 := by simp
  have hlow : byteAt (d ++ [c.setWidth 8, (c >>> 8).setWidth 8]) d.length = c.setWidth 8 := by
    simp [byteAt]
  have hhigh : byteAt (d ++ [c.setWidth 8, (c >>> 8).setWidth 8]) (d.length + 1) =
      (c >>> 8).setWidth 8 := by
    simp [byteAt]
  rw [parseRecv, hlen, if_pos (Nat.le_add_left ..), Nat.add_sub_cancel,
    Nat.add_succ_sub_one, hlow, hhigh, setWidth_or_shiftLeft]

/-- The CRC check runs over what comes before the trailer (44_packet_framer.md R214). -/
theorem parseCalc_append_pair (cfg : Config) (d : List Byte) (a b : Byte) :
    parseCalc cfg (d ++ [a, b]) = crc16 cfg cfg.crcSeed d := by
  simp [parseCalc]

section
variable (cfg : Config) (p : List Byte)

/-- A body is LEN, the payload and two bytes of CRC. -/
@[simp] theorem frameBody_length : (frameBody cfg p).length = p.length + 3 := by
  simp [frameBody]

/-- The CRC received with a frame (44_packet_framer.md R214). -/
theorem parseRecv_frameBody : parseRecv (frameBody cfg p) = frameCrc cfg p :=
  parseRecv_append_crc _ _

/-- The CRC calculated over a frame (44_packet_framer.md R214). -/
theorem parseCalc_frameBody : parseCalc cfg (frameBody cfg p) = frameCrc cfg p :=
  parseCalc_append_pair ..

/-- A frame verifies (44_packet_framer.md R214, R221). -/
theorem parseCrcOk_frameBody : parseCrcOk cfg (frameBody cfg p) = true := by
  rw [parseCrcOk_of_two_le (by simp), parseCalc_frameBody, parseRecv_frameBody, decide_eq_true rfl]

/-- The length of a frame's payload (44_packet_framer.md R215). -/
theorem parsePlen_frameBody : parsePlen (frameBody cfg p) = BitVec.ofNat 16 p.length := by
  simp [parsePlen, countWord]

/-- The length gate on a frame (44_packet_framer.md R215). -/
theorem parseLenOk_frameBody :
    parseLenOk cfg (frameBody cfg p) = decide (p.length = cfg.expectedPlen) := by
  simp [parseLenOk]

/-- The bytes of a frame's Record are its payload (44_packet_framer.md R216). -/
theorem take_tail_frameBody : (frameBody cfg p).tail.take p.length = p :=
  List.take_left

/-- The events of the parse of a frame (44_packet_framer.md R221). -/
theorem parseEvents_frameBody :
    parseEvents cfg (frameBody cfg p) = .crcOk (frameCrc cfg p) ::
      (if p.length = cfg.expectedPlen then [.record p]
        else [.lenMismatch (BitVec.ofNat 16 (p.length + 3))]) := by
  rw [parseEvents_eq, parseCrcOk_frameBody, parseLenOk_frameBody, parseCalc_frameBody]
  by_cases h : p.length = cfg.expectedPlen
  · simp [← h, take_tail_frameBody]
  · simp [h]

end

/-! ### The whole receive path -/

section
variable {s : State} {reflected : Bool} {bias : Nat} {policy : ManPolicy} {p : List Byte}
  (hc : s.cfg = defaultBut reflected bias policy) (hraw : s.raw = rawImage (frame s.cfg p))
include hc hraw

/-- RAW holds the preamble's image and then the body's. -/
theorem raw_eq_rawImage_append :
    s.raw = rawImage ([0x00#8, 0x00#8, 0x03#8] ++ frameBody s.cfg p) := by
  rw [hraw, frame_eq, hc]
  rfl

/-- The scan of a frame's image starts the body at raw bit 48 (43_frame_sync.md R177). -/
theorem syncScan_of_frame :
    s.syncScan = { s with syncSr := 0xA5#8, dstart := 48#16, syncFound := true } := by
  have hscan : scanRaw s.cfg s.raw = ⟨0xA5#8, 48, true⟩ := by
    have hfound : (scanFrom 0xA5#8 0x00#8 0 (rawImage [0x00#8, 0x00#8, 0x03#8])).found = true := by
      rw [scanFrom_preamble]
    rw [raw_eq_rawImage_append hc hraw, rawImage_append, hc]
    exact (scanFrom_append_of_found hfound _).trans scanFrom_preamble
  rw [State.syncScan, hscan]
  rfl

/-- As many whole bytes follow the sync as the body has (44_packet_framer.md R211). -/
theorem bytesAfterScan_of_frame : bytesAfterScan s = (frameBody s.cfg p).length := by
  have hlen : s.raw.length = 16 * (3 + (frameBody s.cfg p).length) := by
    rw [raw_eq_rawImage_append hc hraw, rawImage_length, List.length_append]
    rfl
  have hstart : s.syncScan.dstart.toNat = 48 := by
    rw [syncScan_of_frame hc hraw]
    rfl
  rw [bytesAfterScan, hlen, hstart]
  omega

/-- What the pipeline decodes is the body (44_packet_framer.md R221). -/
theorem attemptBytes_of_frame : s.attemptBytes = frameBody s.cfg p := by
  have hnb : wholeBytes s.raw s.syncScan.dstart = (frameBody s.cfg p).length :=
    bytesAfterScan_of_frame hc hraw
  rw [State.attemptBytes, hnb, syncScan_of_frame hc hraw, raw_eq_rawImage_append hc hraw]
  exact decodeBytes_rawImage _ _ _ _ rfl

/-- The Decoded event of a frame (44_packet_framer.md R221). -/
theorem decodedEvent_of_frame :
    s.decodedEvent = .decoded true 48#16 (BitVec.ofNat 16 (p.length + 3)) := by
  have hnb : wholeBytes s.raw s.syncScan.dstart = (frameBody s.cfg p).length :=
    bytesAfterScan_of_frame hc hraw
  rw [State.decodedEvent, hnb, frameBody_length, syncScan_of_frame hc hraw, countWord]

end

/-- Settles O57: RX_DECODE decodes the body, and the parse of a body is known field by field. -/
theorem frameRoundTripThroughThePipeline : Obligations.FrameRoundTripThroughThePipeline := by
  intro reflected bias policy p s hc hp hovf hraw
  have hscan := syncScan_of_frame hc hraw
  have hbytes := attemptBytes_of_frame hc hraw
  have hcap : s.cfg.decCap = 32 := by rw [hc]; rfl
  have hplen : s.cfg.expectedPlen = 5 := by rw [hc]; rfl
  have hfits : bytesAfterScan s ≤ s.cfg.decCap := by
    rw [bytesAfterScan_of_frame hc hraw, frameBody_length, hcap]
    omega
  refine ⟨_, exec_rxDecode_of_fits hovf hfits, congrArg State.syncFound hscan,
    congrArg State.dstart hscan, hbytes, ?_, ?_, ?_, ?_, ?_⟩
  all_goals rw [State.decodedAttempt, hbytes]
  · exact parseCrcOk_frameBody ..
  · exact parseCalc_frameBody ..
  · exact parseRecv_frameBody ..
  · exact parsePlen_frameBody ..
  · simp only [decodedEvent_of_frame hc hraw, parseEvents_frameBody, hplen, List.append_assoc]
    rfl

end Sys2Proof.Machine
end

section
/-! PROOFS. The frame on the line: what the tick source's samples of a line image leave in RAW
(42_pulse_classifier.md R149, R150; 70_reset_and_hazards.md R295, R300). -/

namespace Sys2Proof.Machine

open Terms

/-! ### The data bits of a line image -/

/-- The data bits of a frame in the order they are sent, each byte's most significant bit first
(41_manchester.md R120). -/
def dataBits (f : List Byte) : List Bool :=
  f.flatMap fun b => (List.range 8).map fun i => b.getLsbD (7 - i)

/-- The line levels of data bits: each is its inverse and then itself (41_manchester.md R121). -/
def bitsLine (ds : List Bool) : List Bool := ds.flatMap fun d => [!d, d]

/-- The levels of a first data bit and of the others. -/
theorem bitsLine_cons (d : Bool) (ds : List Bool) : bitsLine (d :: ds) = [!d, d] ++ bitsLine ds :=
  List.flatMap_cons

/-- The line bits of one byte are the levels of its data bits. -/
theorem byteLine_eq_bitsLine (b : Byte) :
    byteLine b = bitsLine ((List.range 8).map fun i => b.getLsbD (7 - i)) := by
  simp [byteLine, bitsLine, List.range_succ, getLsbD_manEnc, -BitVec.getLsbD_eq_getElem]

/-- The line image of a frame is the levels of its data bits (44_packet_framer.md R192). -/
theorem lineImage_eq_bitsLine (f : List Byte) : lineImage f = bitsLine (dataBits f) := by
  rw [lineImage, bitsLine, dataBits, List.flatMap_assoc]
  exact congrArg (f.flatMap ·) (funext byteLine_eq_bitsLine)

/-- Each data bit is two line levels. -/
theorem bitsLine_length (ds : List Bool) : (bitsLine ds).length = 2 * ds.length := by
  simp [bitsLine, Nat.mul_comm]

/-! ### Ticks at one level -/

/-- `s` with the raw bits `raw` and a transition to level `l` just accepted
(42_pulse_classifier.md R144). -/
def State.onLevel (s : State) (raw : List Bool) (l : Bool) : State :=
  { s with raw := raw, plvl := l, pcnt := 0#8 }

section
variable (s : State) (raw : List Bool) (l : Bool)

/-- `n` more samples of a level held for `k` (42_pulse_classifier.md R149). -/
theorem runCommands_more_held_ticks (k n : Nat) :
    runCommands (List.replicate n (.rxTick l)) ((s.onLevel raw l).heldFor k) =
      .next ((s.onLevel raw l).heldFor (k + n)) := by
  have hheld := runCommands_held_ticks (s := s.onLevel raw l) rfl
  rw [← runCommands_append (hheld k)]
  exact List.replicate_append_replicate ▸ hheld (k + n)

/-- `h` samples of a level, the first of which is an accepted transition to it. -/
theorem runCommands_new_level {t : State} {raw' : List Bool} {h : Nat} (hh : 1 ≤ h)
    (hfirst : exec (.rxTick l) t = .next (s.onLevel raw' l)) :
    runCommands (List.replicate h (.rxTick l)) t = .next ((s.onLevel raw' l).heldFor (h - 1)) := by
  obtain ⟨n, rfl⟩ := Nat.exists_eq_add_of_le' hh
  rw [List.replicate_succ, runCommands_cons hfirst]
  exact runCommands_held_ticks (s := s.onLevel raw' l) rfl n

/-- The duration a tick sees after `k` held samples. -/
theorem tickCount_heldFor (k : Nat) :
    tickCount ((s.onLevel raw l).heldFor k) = min (k + 1) s.cfg.pcntMax.toNat := by
  have hmax := s.cfg.pcntMax.isLt
  simp only [tickCount, State.heldFor, State.onLevel, BitVec.toNat_ofNat]
  omega

end

/-! ### A line sampled `h` times a level -/

/-- The ticks of two parts of a line (70_reset_and_hazards.md R300). -/
theorem lineTicks_append (h : Nat) (as bs : List Bool) :
    lineTicks h (as ++ bs) = lineTicks h as ++ lineTicks h bs :=
  List.flatMap_append

/-- The ticks of two levels. -/
theorem lineTicks_pair (h : Nat) (a b : Bool) :
    lineTicks h [a, b] = List.replicate h (.rxTick a) ++ List.replicate h (.rxTick b) := by
  simp [lineTicks]

/-- Levels of `h` samples each are told apart: one is SINGLE, two alike are DOUBLE
(42_pulse_classifier.md R150; 70_reset_and_hazards.md R300). -/
structure Samples (c : Config) (h : Nat) : Prop where
  /-- The parameters meet 00_scope.md R10. -/
  wellFormed : c.WellFormed
  /-- One level is not too short for SINGLE. -/
  one_ge : c.t1Lo ≤ h
  /-- One level is not too long for SINGLE. -/
  one_le : h ≤ c.t1Hi
  /-- Two levels are not too short for DOUBLE. -/
  two_ge : c.t2Lo ≤ 2 * h
  /-- Two levels are not too long for DOUBLE. -/
  two_le : 2 * h ≤ c.t2Hi

/-- The numbers of samples of 70_reset_and_hazards.md R300, at the default bands. -/
theorem samples_defaultBut {c : Config} {reflected : Bool} {bias : Nat} {policy : ManPolicy}
    (hc : c = defaultBut reflected bias policy) (hwf : c.WellFormed) {h : Nat} (hlo : 15 ≤ h)
    (hhi : h ≤ 17) : Samples c h := by
  subst hc
  refine ⟨hwf, ?_, ?_, ?_, ?_⟩ <;> dsimp only [defaultBut, Config.default] <;> omega

/-- An IDLE transition is taken after a level longer than the DOUBLE band
(42_pulse_classifier.md R143). -/
theorem outside_bands {c : Config} (hc : c.WellFormed) {d : Nat} (hd : c.t2Hi < d) :
    c.tNoise ≤ d ∧ ¬ (c.t1Lo ≤ d ∧ d ≤ c.t1Hi) ∧ ¬ (c.t2Lo ≤ d ∧ d ≤ c.t2Hi) := by
  omega

/-- The first tick of a frame, after a line that was low for long: RAW is empty and stays so
(42_pulse_classifier.md R150). -/
theorem exec_rxTick_after_low {s : State} (hc : s.cfg.WellFormed) (hl : s.plvl = false)
    (hp : s.cfg.t2Hi ≤ s.pcnt.toNat) (hraw : s.raw = []) (hovf : s.rawOvf = false) :
    exec (.rxTick true) s = .next (s.onLevel [] true) := by
  have hcount : s.cfg.t2Hi < tickCount s := by
    rw [tickCount]
    omega
  obtain ⟨hn, h1, h2⟩ := outside_bands hc hcount
  have hempty : s.raw.length ≤ s.cfg.trigMin := by simp [hraw]
  rw [(idleTickTerminatesTheAttempt true s (by simp [hl]) hn h1 h2).1 hempty, State.onLevel, ← hovf]

/-- The end of a level held for longer than the DOUBLE band, on RAW long enough to decode
(42_pulse_classifier.md R148, R150). -/
theorem exec_rxTick_after_long {s : State} {raw : List Bool} {n : Nat} (hc : s.cfg.WellFormed)
    (d : Bool) (hn : s.cfg.t2Hi < n) (htrig : s.cfg.trigMin < raw.length) :
    ∃ t, exec .rxDecode ((s.onLevel raw d).heldFor (n - 1)) = .next t ∧
      exec (.rxTick (!d)) ((s.onLevel raw d).heldFor (n - 1)) =
        .next { t with pcnt := 0#8, plvl := !d } := by
  have hcount : s.cfg.t2Hi < tickCount ((s.onLevel raw d).heldFor (n - 1)) := by
    rw [tickCount_heldFor]
    omega
  obtain ⟨hnoise, h1, h2⟩ := outside_bands hc hcount
  exact (idleTickTerminatesTheAttempt (!d) ((s.onLevel raw d).heldFor (n - 1))
    (Bool.not_ne_self d) hnoise h1 h2).2 htrig

section
variable {s : State} {h : Nat} (hs : Samples s.cfg h)
include hs

/-- A level has a first sample. -/
theorem one_le_samples : 1 ≤ h := by
  obtain ⟨hwf, hge, -⟩ := hs
  omega

/-- The end of a level held for `h` samples (42_pulse_classifier.md R143). -/
theorem exec_rxTick_after_one {raw : List Bool} (d : Bool) (hroom : raw.length < s.cfg.rawCap) :
    exec (.rxTick (!d)) ((s.onLevel raw d).heldFor (h - 1)) =
      .next (s.onLevel (raw ++ [!d]) (!d)) := by
  obtain ⟨hwf, hge, hle, -, -⟩ := hs
  have hcount : tickCount ((s.onLevel raw d).heldFor (h - 1)) = h := by
    rw [tickCount_heldFor]
    omega
  exact (singleTickPushesOneBit (!d) ((s.onLevel raw d).heldFor (h - 1)) hwf (Bool.not_ne_self d)
    (hge.trans_eq hcount.symm) (hcount.trans_le hle)).1 hroom

/-- The end of a level held for `2 * h` samples (42_pulse_classifier.md R143). -/
theorem exec_rxTick_after_two {raw : List Bool} (d : Bool)
    (hroom : raw.length + 2 ≤ s.cfg.rawCap) :
    exec (.rxTick (!d)) ((s.onLevel raw d).heldFor (2 * h - 1)) =
      .next (s.onLevel (raw ++ [!d, !d]) (!d)) := by
  obtain ⟨hwf, -, -, hge, hle⟩ := hs
  have hcount : tickCount ((s.onLevel raw d).heldFor (2 * h - 1)) = 2 * h := by
    rw [tickCount_heldFor]
    omega
  exact (doubleTickPushesTwoBits (!d) ((s.onLevel raw d).heldFor (2 * h - 1)) hwf
    (Bool.not_ne_self d) (hge.trans_eq hcount.symm) (hcount.trans_le hle)).1 hroom

/-- A new level for `n` samples, after one level of `h` samples. -/
theorem runCommands_after_one {raw : List Bool} (d : Bool) (hroom : raw.length < s.cfg.rawCap)
    {n : Nat} (hn : 1 ≤ n) :
    runCommands (List.replicate n (.rxTick (!d))) ((s.onLevel raw d).heldFor (h - 1)) =
      .next ((s.onLevel (raw ++ [!d]) (!d)).heldFor (n - 1)) :=
  runCommands_new_level _ _ hn (exec_rxTick_after_one hs d hroom)

/-- The two levels of a data bit `e` after the pending level `d`. If they are alike, each level is a
SINGLE; if not, the first joins the pending one to a DOUBLE (42_pulse_classifier.md R150). Either
way RAW gets the inverse of the pending level and of the bit's first. -/
theorem runCommands_bit {raw : List Bool} (d e : Bool) (hroom : raw.length + 2 ≤ s.cfg.rawCap) :
    runCommands (lineTicks h [!e, e]) ((s.onLevel raw d).heldFor (h - 1)) =
      .next ((s.onLevel (raw ++ [!d, e]) e).heldFor (h - 1)) := by
  have hh := one_le_samples hs
  rw [lineTicks_pair]
  obtain rfl | rfl := Bool.eq_or_eq_not e d
  · have hfirst := runCommands_after_one hs (raw := raw) e (by omega) hh
    have hsecond := runCommands_after_one hs (raw := raw ++ [!e]) (!e) (by simp; omega) hh
    rw [Bool.not_not, List.append_assoc] at hsecond
    exact (runCommands_append hfirst).trans hsecond
  · have hfirst := runCommands_more_held_ticks s raw d (h - 1) h
    have hsum : h - 1 + h = 2 * h - 1 := by omega
    rw [Bool.not_not, runCommands_append hfirst, hsum]
    exact runCommands_new_level _ _ hh (exec_rxTick_after_two hs d hroom)

/-- The levels of a list of data bits, after the pending level `d`: RAW gets the inverse of `d` and
of them, but for the last level, which is now the pending one. -/
theorem runCommands_bits (ds : List Bool) (raw : List Bool) (d : Bool)
    (hroom : raw.length + 2 * ds.length ≤ s.cfg.rawCap) :
    ∃ raw', runCommands (lineTicks h (bitsLine ds)) ((s.onLevel raw d).heldFor (h - 1)) =
        .next ((s.onLevel raw' (ds.getLastD d)).heldFor (h - 1)) ∧
      raw' ++ [!ds.getLastD d] = raw ++ (!d) :: (bitsLine ds).map (!·) := by
  induction ds generalizing raw d with
  | nil => exact ⟨raw, rfl, rfl⟩
  | cons e ds ih =>
    rw [List.length_cons] at hroom
    have hbit := runCommands_bit hs (raw := raw) d e (by omega)
    obtain ⟨raw', hrun, himage⟩ := ih (raw ++ [!d, e]) e (by simp; omega)
    refine ⟨raw', ?_, ?_⟩
    · rw [bitsLine_cons, lineTicks_append, runCommands_append hbit, hrun, List.getLastD_cons]
    · rw [List.getLastD_cons, himage, bitsLine_cons]
      simp

/-- A first data bit 0, after a line that was low for long: its high level is not in RAW yet but as
the inverse that its end pushes (42_pulse_classifier.md R150). -/
theorem runCommands_first_bit (hl : s.plvl = false) (hp : s.cfg.t2Hi ≤ s.pcnt.toNat)
    (hraw : s.raw = []) (hovf : s.rawOvf = false) (hroom : 0 < s.cfg.rawCap) :
    runCommands (lineTicks h [true, false]) s =
      .next ((s.onLevel [false] false).heldFor (h - 1)) := by
  have hh := one_le_samples hs
  have hhigh := runCommands_new_level s true hh
    (exec_rxTick_after_low hs.wellFormed hl hp hraw hovf)
  rw [lineTicks_pair, runCommands_append hhigh]
  exact runCommands_after_one hs (raw := []) true hroom hh

/-- A sampled frame that begins with data bit 0 and ends with data bit 1, and then a low line,
leaves the frame's inverted line image in RAW (70_reset_and_hazards.md R295, R300). -/
theorem runCommands_frame {f : List Byte} {g : Nat} (hl : s.plvl = false)
    (hp : s.cfg.t2Hi ≤ s.pcnt.toNat) (hraw : s.raw = []) (hovf : s.rawOvf = false)
    (hfirst : (dataBits f).head? = some false) (hlast : (dataBits f).getLast? = some true)
    (hroom : (lineImage f).length ≤ s.cfg.rawCap) (hg : 1 ≤ g) :
    runCommands (lineTicks h (lineImage f) ++ List.replicate g (.rxTick false)) s =
      .next ((s.onLevel (rawImage f) false).heldFor (g - 1)) := by
  obtain ⟨ds, hds⟩ := List.head?_eq_some_iff.mp hfirst
  have hpending : ds.getLastD false = true := by
    rwa [hds, List.getLast?_cons, Option.some_inj, ← List.getLastD_eq_getLast?] at hlast
  have hline : lineImage f = [true, false] ++ bitsLine ds := by
    rw [lineImage_eq_bitsLine, hds, bitsLine_cons, Bool.not_false]
  rw [hline, List.length_append, bitsLine_length, List.length_cons, List.length_singleton] at hroom
  have hstart := runCommands_first_bit hs hl hp hraw hovf (by omega)
  obtain ⟨raw', hbits, himage⟩ :=
    runCommands_bits hs ds [false] false (by rw [List.length_singleton]; omega)
  rw [hpending] at hbits himage
  have hraw' : raw' ++ [!true] = rawImage f := by
    rw [himage, rawImage, hline, List.map_append]
    rfl
  have hlen : raw'.length < s.cfg.rawCap := by
    have hlength := congrArg List.length himage
    simp only [List.length_append, List.length_cons, List.length_nil, List.length_map,
      bitsLine_length] at hlength
    omega
  rw [hline, lineTicks_append, List.append_assoc, runCommands_append hstart,
    runCommands_append hbits, ← hraw']
  exact runCommands_after_one hs true hlen hg

end

/-! ### The whole path on the line -/

/-- The last data bit of a frame is bit 8 of its CRC (70_reset_and_hazards.md R295). -/
theorem getLast?_dataBits_frame (cfg : Config) (p : List Byte) :
    (dataBits (frame cfg p)).getLast? = some ((frameCrc cfg p).getLsbD 8) := by
  rw [frame, dataBits, List.flatMap_append, List.getLast?_append]
  simp [List.range_succ]

/-- Settles O58: the ticks leave the frame's inverted image in RAW, and the tick that ends the low
line runs the pipeline on it, which decodes it as in O57. -/
theorem frameRoundTripOnTheLine : Obligations.FrameRoundTripOnTheLine := by
  intro reflected bias policy p h g s hc hwf hp hlo hhi hg hl hpcnt hraw hovf hcrc
  obtain ⟨ht2Hi, hrawCap, htrigMin, hpreamble⟩ : s.cfg.t2Hi = 35 ∧ s.cfg.rawCap = 512 ∧
      s.cfg.trigMin = 30 ∧ s.cfg.preamble0 = 0x00#8 := by
    rw [hc]
    exact ⟨rfl, rfl, rfl, rfl⟩
  have hfirst : (dataBits (frame s.cfg p)).head? = some false := by
    rw [frame_eq, hpreamble]
    rfl
  have hlast : (dataBits (frame s.cfg p)).getLast? = some true := by
    rw [getLast?_dataBits_frame, hcrc]
  have hroom : (lineImage (frame s.cfg p)).length ≤ s.cfg.rawCap := by
    rw [lineImage_length, frame_length]
    omega
  have htrig : s.cfg.trigMin < (rawImage (frame s.cfg p)).length := by
    rw [rawImage_length, frame_length]
    omega
  have hframe := runCommands_frame (g := g) (samples_defaultBut hc hwf hlo hhi) hl (by omega) hraw
    hovf hfirst hlast hroom (by omega)
  obtain ⟨u, hdecode, htick⟩ := exec_rxTick_after_long hwf false (n := g) (by omega) htrig
  obtain ⟨t, ht, -, -, hdec, hok, -, -, hplen, htrace⟩ :=
    frameRoundTripThroughThePipeline reflected bias policy p
      ((s.onLevel (rawImage (frame s.cfg p)) false).heldFor (g - 1)) hc hp hovf rfl
  obtain rfl := Host.Outcome.next.inj (hdecode.symm.trans ht)
  refine ⟨{ u with pcnt := 0#8, plvl := true }, ?_, hdec, hok, hplen, htrace⟩
  exact (runCommands_append hframe).trans (runCommands_cons htick [])

end Sys2Proof.Machine
end

section
/-! PROOFS. The system commands NOP and STAT_CLR, and the statements of 45_system.md R240 and
R241. -/

namespace Sys2Proof.Machine

open Terms

/-- NOP answers the state it is given (45_system.md R240). -/
theorem exec_nop (s : State) : exec .nop s = .next s := rfl

/-- STAT_CLR clears the two sticky bits (45_system.md R241). -/
theorem exec_statClr (s : State) : exec .statClr s = .next s.clearSticky := rfl

/-- Settles O24: NOP is a command of format F0, and its word is its OPC, 0x00, over zeros. -/
theorem nopChangesNothing : Obligations.NopChangesNothing :=
  ⟨exec_nop, onlyWordOf_encode (i := .nop) rfl⟩

/-- Settles O25: STAT_CLR is a command of format F0, and its word is its OPC, 0x70, over zeros. -/
theorem statClrClearsTheStickyBits : Obligations.StatClrClearsTheStickyBits :=
  ⟨exec_statClr, onlyWordOf_encode (i := .statClr) rfl⟩

end Sys2Proof.Machine
end

section
/-! PROOFS. The step, which has no fault, and the receive and transmit sides, which share no state:
the statements of 60_exceptions.md R273, R275 and R276. -/

namespace Sys2Proof.Machine

open Terms

/-! ### The step -/

/-- Settles O11: it is the step's case without an input. -/
theorem waitingBlockHoldsItsState : Obligations.WaitingBlockHoldsItsState :=
  fun _ hc hi => step_of_no_input hc hi

/-- Settles O13: a step holds the state or takes an input, and either answers a next state. -/
theorem everyInputHasANextState : Obligations.EveryInputHasANextState :=
  fun _ hc => step_next hc

/-! ### The receive operations on another transmit side -/

section receive
variable (s u : State)

/-- `raw_push` neither reads nor writes the transmit side (42_pulse_classifier.md R146). -/
theorem State.rawPush_withTransmitOf (x : Bool) :
    (withTransmitOf s u).rawPush x = withTransmitOf (s.rawPush x) u := by
  rw [State.rawPush_eq, State.rawPush_eq]
  rfl

/-- The pipeline neither reads nor writes the transmit side, on each of its paths
(44_packet_framer.md R210). -/
theorem State.decodePipeline_withTransmitOf :
    (withTransmitOf s u).decodePipeline = withTransmitOf s.decodePipeline u := by
  rcases Bool.eq_false_or_eq_true s.rawOvf with ho | ho
  · rw [s.decodePipeline_of_rawOvf ho, (withTransmitOf s u).decodePipeline_of_rawOvf ho]
    rfl
  · rcases Nat.lt_or_ge s.cfg.decCap (wholeBytes s.raw s.syncScan.dstart) with hn | hn
    · rw [s.decodePipeline_of_decOvf ho hn, (withTransmitOf s u).decodePipeline_of_decOvf ho hn]
      rfl
    · rw [s.decodePipeline_of_fits ho hn, (withTransmitOf s u).decodePipeline_of_fits ho hn]
      rfl

/-- `idle_terminate` neither reads nor writes the transmit side (42_pulse_classifier.md R148). -/
theorem State.idleTerminate_withTransmitOf :
    (withTransmitOf s u).idleTerminate = withTransmitOf s.idleTerminate u := by
  rcases Nat.lt_or_ge s.cfg.trigMin s.raw.length with h | h
  · rw [State.idleTerminate_of_lt h, State.idleTerminate_of_lt (s := withTransmitOf s u) h,
      State.decodePipeline_withTransmitOf]
    rfl
  · rw [State.idleTerminate_of_le h, State.idleTerminate_of_le (s := withTransmitOf s u) h]
    rfl

/-- A transition of any class neither reads nor writes the transmit side
(42_pulse_classifier.md R143 to R145). -/
theorem State.transition_withTransmitOf (l : Bool) :
    (withTransmitOf s u).transition l = withTransmitOf (s.transition l) u := by
  have hclass : classify (withTransmitOf s u).cfg (withTransmitOf s u).pcnt.toNat =
      classify s.cfg s.pcnt.toNat := rfl
  rw [State.transition, State.transition, hclass]
  cases classify s.cfg s.pcnt.toNat with
  | noise => rfl
  | single => rw [State.rawPush_withTransmitOf]; rfl
  | double => rw [State.rawPush_withTransmitOf, State.rawPush_withTransmitOf]; rfl
  | idle => rw [State.idleTerminate_withTransmitOf]; rfl

end receive

/-- A receive command runs the same on any transmit side and leaves that side alone
(60_exceptions.md R273). -/
theorem exec_withTransmitOf {i : Instr} {s t : State} (u : State)
    (hi : i.mnemonic ∈ [.rxTick, .rxAppend, .rxClear, .syncScan, .rxDecode])
    (h : exec i s = .next t) : exec i (withTransmitOf s u) = .next (withTransmitOf t u) := by
  cases i with
  | rxClear | syncScan =>
    obtain rfl := Host.Outcome.next.inj h
    rfl
  | rxTick l =>
    by_cases hl : l = s.plvl
    · obtain rfl := Host.Outcome.next.inj ((exec_rxTick_of_eq hl).symm.trans h)
      exact exec_rxTick_of_eq (s := withTransmitOf s u) hl
    · obtain rfl := Host.Outcome.next.inj ((exec_rxTick_of_ne hl).symm.trans h)
      rw [exec_rxTick_of_ne (s := withTransmitOf s u) hl, ← State.transition_withTransmitOf]
      rfl
  | rxAppend l =>
    obtain rfl := Host.Outcome.next.inj h
    exact congrArg Host.Outcome.next (s.rawPush_withTransmitOf u l)
  | rxDecode =>
    obtain rfl := Host.Outcome.next.inj h
    exact congrArg (Host.Outcome.next ·.rawClear) (s.decodePipeline_withTransmitOf u)
  | nop | crcInit | crcUpd | manEnc | manDec | txBegin | txPush | txBuild | txStep | statClr
  | softReset => simp [Instr.mnemonic] at hi

/-! ### The transmit commands on another receive side -/

/-- `tx_push` neither reads nor writes the receive side (44_packet_framer.md R194). -/
theorem State.txPush_withReceiveOf (s u : State) (b : Byte) :
    (withReceiveOf s u).txPush b = withReceiveOf (s.txPush b) u := by
  rw [State.txPush_eq, State.txPush_eq]
  rfl

/-- A transmit command runs the same on any receive side and leaves that side alone
(60_exceptions.md R273). -/
theorem exec_withReceiveOf {i : Instr} {s t : State} (u : State)
    (hi : i.mnemonic ∈ [.txBegin, .txPush, .txBuild, .txStep])
    (h : exec i s = .next t) : exec i (withReceiveOf s u) = .next (withReceiveOf t u) := by
  cases i with
  | txBegin =>
    obtain rfl := Host.Outcome.next.inj h
    rfl
  | txPush b =>
    obtain rfl := Host.Outcome.next.inj h
    exact congrArg Host.Outcome.next (s.txPush_withReceiveOf u b)
  | txBuild =>
    obtain ⟨hr, rfl⟩ | ⟨hb, ho, rfl⟩ := exec_txBuild_cases h
    · exact exec_txBuild_of_refused (s := withReceiveOf s u) hr
    · exact exec_txBuild_of_accepted (s := withReceiveOf s u) hb ho
  | txStep =>
    cases hb : s.txBusy with
    | false =>
      obtain rfl := Host.Outcome.next.inj ((exec_txStep_of_idle hb).symm.trans h)
      exact exec_txStep_of_idle (s := withReceiveOf s u) hb
    | true =>
      rcases Nat.lt_or_eq_of_le (Nat.le_of_lt_succ s.txhalf.isLt) with hh | hh
      · obtain rfl := Host.Outcome.next.inj ((exec_txStep_within_byte hb hh).symm.trans h)
        exact exec_txStep_within_byte (s := withReceiveOf s u) hb hh
      · obtain rfl := Host.Outcome.next.inj ((exec_txStep_at_byte_end hb hh).symm.trans h)
        exact exec_txStep_at_byte_end (s := withReceiveOf s u) hb hh
  | nop | crcInit | crcUpd | manEnc | manDec | rxTick | rxAppend | rxClear | syncScan | rxDecode
  | statClr | softReset => simp [Instr.mnemonic] at hi

/-- Settles O18: the receive commands on any transmit side, and the transmit commands on any receive
side. -/
theorem transmitAndReceiveShareNoState : Obligations.TransmitAndReceiveShareNoState :=
  fun _ _ _ u h => ⟨fun hi => exec_withTransmitOf u hi h, fun hi => exec_withReceiveOf u hi h⟩

end Sys2Proof.Machine
end

section
/-! PROOFS. The last line level of a frame (70_reset_and_hazards.md R295), and the free interleaving
of the host's commands with ticks (70_reset_and_hazards.md R297). -/

namespace Sys2Proof.Machine

open Terms

/-! ### The last line level of a frame -/

/-- The second line level of a data bit is the bit itself (41_manchester.md R121), so the last level
is the last data bit. -/
theorem getLast?_bitsLine (ds : List Bool) : (bitsLine ds).getLast? = ds.getLast? := by
  rcases List.eq_nil_or_concat ds with rfl | ⟨ds', d, rfl⟩
  · rfl
  · simp [bitsLine]

/-- Settles O56: the last level of the image is the last data bit, and that is bit 8 of the CRC. -/
theorem lastLineLevelIsCrcBitEight : Obligations.LastLineLevelIsCrcBitEight := by
  intro cfg p
  rw [lineImage_eq_bitsLine, getLast?_bitsLine, getLast?_dataBits_frame]

/-! ### A state that joins a run of the ticks and a run of the host -/

/-- The receive side of `r` and the registers of `h` that the CRC, Manchester and transmit commands
write, with the events `es` and the waiting inputs `xs`. -/
def joined (r h : State) (es : List Event) (xs : List Input) : State :=
  { withTransmitOf r h with
    crc := h.crc, menc := h.menc, mdec := h.mdec, cmdErr := h.cmdErr, trace := es, inputs := xs }

/-- Seen from the host, only the receive side and the model's own fields are not `h`'s. -/
theorem joined_eq_withReceiveOf {r h : State} (hcfg : r.cfg = h.cfg) (es : List Event)
    (xs : List Input) :
    joined r h es xs =
      { withReceiveOf h r with draws := r.draws, trace := es, inputs := xs } :=
  congrArg (fun c => { joined r h es xs with cfg := c }) hcfg

/-- `c`, with the inputs `xs` waiting, is in the state in which the ticks alone led to `r` and the
host alone to `h`, and has reported the events of both, in some order. -/
def Joins (r h : State) (xs : List Input) (c : State) : Prop :=
  ∃ es, es.Perm (r.trace ++ h.trace) ∧ c = joined r h es xs

/-- A state joins the starts of both runs: the ticks' has reported the events so far, and the host's
none. -/
theorem joins_start (s : State) (xs : List Input) :
    Joins s { s with trace := [] } xs { s with inputs := xs } :=
  ⟨s.trace, .of_eq (List.append_nil _).symm, rfl⟩

/-- Events reported by the first of two sources. -/
theorem perm_append_left_events {α : Type} {es as bs : List α} (hp : es.Perm (as ++ bs))
    (new : List α) : (es ++ new).Perm (as ++ new ++ bs) :=
  (hp.append_right new).trans (by
    rw [List.append_assoc, List.append_assoc]
    exact List.perm_append_comm.append_left as)

/-! ### A tick beside the host -/

section tick
variable {r h c : State} {xs : List Input} (j : Joins r h xs c)
include j

/-- An append to RAW (42_pulse_classifier.md R146). -/
theorem Joins.rawPush (x : Bool) : Joins (r.rawPush x) h xs (c.rawPush x) := by
  obtain ⟨es, hp, rfl⟩ := j
  refine ⟨es, (r.rawPush_trace x).symm ▸ hp, ?_⟩
  rw [State.rawPush_eq, State.rawPush_eq]
  rfl

/-- The end of an attempt's raw bits (42_pulse_classifier.md R147). -/
theorem Joins.rawClear : Joins r.rawClear h xs c.rawClear := by
  obtain ⟨es, hp, rfl⟩ := j
  exact ⟨es, hp, rfl⟩

/-- The count of a tick (42_pulse_classifier.md R142). -/
theorem Joins.countTick : Joins r.countTick h xs c.countTick := by
  obtain ⟨es, hp, rfl⟩ := j
  exact ⟨es, hp, rfl⟩

/-- The end of an accepted transition (42_pulse_classifier.md R144). -/
theorem Joins.acceptLevel (l : Bool) : Joins (r.acceptLevel l) h xs (c.acceptLevel l) := by
  obtain ⟨es, hp, rfl⟩ := j
  exact ⟨es, hp, rfl⟩

/-- The pipeline, on each of its paths, appends the same events (44_packet_framer.md R210). -/
theorem Joins.decodePipeline : Joins r.decodePipeline h xs c.decodePipeline := by
  obtain ⟨es, hp, rfl⟩ := j
  rcases Bool.eq_false_or_eq_true r.rawOvf with ho | ho
  · rw [r.decodePipeline_of_rawOvf ho, (joined r h es xs).decodePipeline_of_rawOvf ho]
    exact ⟨_, perm_append_left_events hp _, rfl⟩
  · rcases Nat.lt_or_ge r.cfg.decCap (wholeBytes r.raw r.syncScan.dstart) with hn | hn
    · rw [r.decodePipeline_of_decOvf ho hn, (joined r h es xs).decodePipeline_of_decOvf ho hn]
      exact ⟨_, perm_append_left_events hp _, rfl⟩
    · rw [r.decodePipeline_of_fits ho hn, (joined r h es xs).decodePipeline_of_fits ho hn]
      exact ⟨_, perm_append_left_events hp _, rfl⟩

/-- The end of an attempt (42_pulse_classifier.md R148). -/
theorem Joins.idleTerminate : Joins r.idleTerminate h xs c.idleTerminate := by
  obtain ⟨htrig, hraw⟩ : c.cfg.trigMin = r.cfg.trigMin ∧ c.raw = r.raw := by
    obtain ⟨es, -, rfl⟩ := j
    exact ⟨rfl, rfl⟩
  rw [State.idleTerminate, State.idleTerminate, htrig, hraw]
  split
  · exact j.decodePipeline.rawClear
  · exact j.rawClear

/-- A transition of any class (42_pulse_classifier.md R143 to R145). -/
theorem Joins.transition (l : Bool) : Joins (r.transition l) h xs (c.transition l) := by
  have hclass : classify c.cfg c.pcnt.toNat = classify r.cfg r.pcnt.toNat := by
    obtain ⟨es, -, rfl⟩ := j
    rfl
  rw [State.transition, State.transition, hclass]
  cases classify r.cfg r.pcnt.toNat with
  | noise => exact j
  | single => exact (j.rawPush l).acceptLevel l
  | double => exact ((j.rawPush l).rawPush l).acceptLevel l
  | idle => exact j.idleTerminate.acceptLevel l

/-- A tick does in a joined state what it does in the run of the ticks alone. -/
theorem Joins.exec_rxTick {l : Bool} {r' : State} (hr : exec (.rxTick l) r = .next r') :
    ∃ c', exec (.rxTick l) c = .next c' ∧ Joins r' h xs c' := by
  have hlevel : c.plvl = r.plvl := by
    obtain ⟨es, -, rfl⟩ := j
    rfl
  by_cases hl : l = r.plvl
  · obtain rfl := Host.Outcome.next.inj ((exec_rxTick_of_eq hl).symm.trans hr)
    exact ⟨_, exec_rxTick_of_eq (hl.trans hlevel.symm), j.countTick⟩
  · obtain rfl := Host.Outcome.next.inj ((exec_rxTick_of_ne hl).symm.trans hr)
    exact ⟨_, exec_rxTick_of_ne (hlevel ▸ hl), j.countTick.transition l⟩

end tick

/-! ### A host command beside the ticks -/

/-- Under FIRST_SAMPLE the byte decoded does not depend on the draws (41_manchester.md R124). -/
theorem manDec_firstSample (free free' : Byte) (w : Half) :
    manDec .firstSample free w = manDec .firstSample free' w := by
  simp only [manDec, pairDec_firstSample]

/-- A command that interleaves freely does in a joined state what it does in the run of the host
alone. -/
theorem Joins.exec_host {r h h' c : State} {xs : List Input} {i : Instr} (j : Joins r h xs c)
    (hcfg : r.cfg = h.cfg) (hp : h.cfg.manPolicy = .firstSample)
    (hi : interleavesFreely i = true) (hh : exec i h = .next h') :
    ∃ c', exec i c = .next c' ∧ Joins r h' xs c' := by
  obtain ⟨es, hes, rfl⟩ := j
  have joins {es : List Event} (hes : es.Perm (r.trace ++ h'.trace)) :
      Joins r h' xs { withReceiveOf h' r with draws := r.draws, trace := es, inputs := xs } :=
    ⟨es, hes, (joined_eq_withReceiveOf (hcfg.trans (exec_cfg hh).symm) es xs).symm⟩
  rw [joined_eq_withReceiveOf hcfg]
  cases i with
  | crcInit | crcUpd | manEnc | txBegin =>
    obtain rfl := Host.Outcome.next.inj hh
    exact ⟨_, rfl, joins hes⟩
  | manDec w =>
    obtain rfl := Host.Outcome.next.inj ((exec_manDec_of_firstSample hp w).symm.trans hh)
    have hbyte := manDec_firstSample (Config.freeByte r.draws) (Config.freeByte h.draws) w
    exact ⟨_, exec_manDec_of_firstSample (by exact hp) w, hbyte ▸ joins hes⟩
  | txPush b =>
    rcases Nat.lt_or_ge h.txp.length h.cfg.txCap with hroom | hfull
    · obtain rfl := Host.Outcome.next.inj (((txPushNeverOverruns b h).1 hroom).symm.trans hh)
      exact ⟨_, (txPushNeverOverruns b _).1 (by exact hroom), joins hes⟩
    · obtain rfl := Host.Outcome.next.inj (((txPushNeverOverruns b h).2 hfull).symm.trans hh)
      have hes' := hes.append_right [.overflow .tx]
      rw [List.append_assoc] at hes'
      exact ⟨_, (txPushNeverOverruns b _).2 (by exact hfull), joins hes'⟩
  | txBuild =>
    obtain ⟨hr, rfl⟩ | ⟨hb, ho, rfl⟩ := exec_txBuild_cases hh
    · exact ⟨_, exec_txBuild_of_refused hr, joins hes⟩
    · exact ⟨_, exec_txBuild_of_accepted hb ho, joins hes⟩
  | txStep =>
    cases hb : h.txBusy with
    | false =>
      obtain rfl := Host.Outcome.next.inj ((exec_txStep_of_idle hb).symm.trans hh)
      exact ⟨_, exec_txStep_of_idle (by exact hb), joins hes⟩
    | true =>
      rcases Nat.lt_or_eq_of_le (Nat.le_of_lt_succ h.txhalf.isLt) with hhalf | hhalf
      · obtain rfl := Host.Outcome.next.inj ((exec_txStep_within_byte hb hhalf).symm.trans hh)
        exact ⟨_, exec_txStep_within_byte (by exact hb) (by exact hhalf), joins hes⟩
      · obtain rfl := Host.Outcome.next.inj ((exec_txStep_at_byte_end hb hhalf).symm.trans hh)
        exact ⟨_, exec_txStep_at_byte_end (by exact hb) (by exact hhalf), joins hes⟩
  | nop | rxTick | rxAppend | rxClear | syncScan | rxDecode | statClr | softReset =>
    simp [interleavesFreely] at hi

/-! ### Every interleaving -/

/-- A run of commands answers a state, whatever the commands (60_exceptions.md R276). -/
theorem runCommands_next (is : List Instr) (s : State) : ∃ t, runCommands is s = .next t := by
  induction is generalizing s with
  | nil => exact ⟨s, rfl⟩
  | cons i is ih =>
    obtain ⟨t, ht⟩ := exec_next i s
    rw [runCommands_cons ht]
    exact ih t

/-- A run whose oldest input is the word of a command goes on from where the command ends. -/
theorem core_run_command {c c' : State} {i : Instr} {rest : List Input} (hc : c.cfg.WellFormed)
    (hi : c.inputs = .cmd (encode i) :: rest)
    (he : exec i { c with inputs := rest } = .next c') (n : Nat) :
    core.run (n + 1) c = core.run n c' := by
  have hstep : core.step c = .next c' :=
    (step_of_input hc hi).trans ((takeInput_of_decode_ok (decodeEncodeRoundTrip i) _).trans he)
  simp only [Host.Core.run, hstep]

/-- A command that runs from any joined state runs as the oldest input of one. -/
theorem Joins.core_run {r h r' h' c : State} {i : Instr} {rest : List Input}
    (hwf : r.cfg.WellFormed) (j : Joins r h (.cmd (encode i) :: rest) c)
    (hexec : ∀ {u}, Joins r h rest u → ∃ u', exec i u = .next u' ∧ Joins r' h' rest u') :
    ∃ c', Joins r' h' rest c' ∧ ∀ n, core.run (n + 1) c = core.run n c' := by
  obtain ⟨es, hp, rfl⟩ := j
  obtain ⟨c', hc', j'⟩ := hexec ⟨es, hp, rfl⟩
  exact ⟨c', j', core_run_command hwf rfl hc'⟩

/-- Every interleaving of the host's words with the ticks ends in the state that joins the run of
the host alone and the run of the ticks alone (70_reset_and_hazards.md R297). -/
theorem run_interleaving {host : List Instr} {levels : List Bool} {zs : List Input}
    (hz : Interleaving (commandInputs host) (tickInputs levels) zs)
    (hfree : ∀ i ∈ host, interleavesFreely i = true) {r r' h h' c : State}
    (j : Joins r h zs c) (hwf : h.cfg.WellFormed) (hp : h.cfg.manPolicy = .firstSample)
    (hcfg : r.cfg = h.cfg) (hhost : runCommands host h = .next h')
    (hticks : runCommands (levels.map .rxTick) r = .next r') :
    ∃ t, core.run zs.length c = .next t ∧ Joins r' h' [] t := by
  generalize hxs : commandInputs host = xs, hys : tickInputs levels = ys at hz
  induction hz generalizing host levels r h c with
  | done =>
    obtain rfl := List.map_eq_nil_iff.mp hxs
    obtain rfl := List.map_eq_nil_iff.mp hys
    obtain rfl := Host.Outcome.next.inj hhost
    obtain rfl := Host.Outcome.next.inj hticks
    exact ⟨c, rfl, j⟩
  | left _ ih =>
    obtain ⟨i, is, rfl, rfl, rfl⟩ := List.map_eq_cons_iff.mp hxs
    obtain ⟨hi, his⟩ := List.forall_mem_cons.mp hfree
    obtain ⟨h₁, hh⟩ := exec_next i h
    have hcfg₁ := exec_cfg hh
    rw [runCommands_cons hh] at hhost
    obtain ⟨c₁, j₁, hrun⟩ := j.core_run (hcfg ▸ hwf) (·.exec_host hcfg hp hi hh)
    rw [List.length_cons, hrun]
    exact ih his j₁ (hcfg₁ ▸ hwf) (hcfg₁ ▸ hp) (hcfg.trans hcfg₁.symm) hhost hticks rfl hys
  | right _ ih =>
    obtain ⟨l, ls, rfl, rfl, rfl⟩ := List.map_eq_cons_iff.mp hys
    obtain ⟨r₁, hr⟩ := exec_next (.rxTick l) r
    rw [List.map_cons, runCommands_cons hr] at hticks
    obtain ⟨c₁, j₁, hrun⟩ := j.core_run (hcfg ▸ hwf) (·.exec_rxTick hr)
    rw [List.length_cons, hrun]
    exact ih hfree j₁ hwf hp ((exec_cfg hr).trans hcfg) hhost hticks hxs rfl

/-- The host's words followed by the ticks are an interleaving. -/
theorem interleaving_append {α : Type} (xs ys : List α) : Interleaving xs ys (xs ++ ys) := by
  induction xs with
  | nil =>
    induction ys with
    | nil => exact .done
    | cons y ys ih => exact .right ih
  | cons x xs ih => exact .left ih

/-- Settles O59: every interleaving, the host's words followed by the ticks among them, joins the
same two runs. -/
theorem hostAndTicksInterleaveFreely : Obligations.HostAndTicksInterleaveFreely := by
  intro host levels s hwf hp hfree
  obtain ⟨h', hhost⟩ := runCommands_next host { s with trace := [] }
  obtain ⟨r', hticks⟩ := runCommands_next (levels.map .rxTick) s
  have hrun {zs : List Input} (hz : Interleaving (commandInputs host) (tickInputs levels) zs) :
      ∃ t, runInputs zs s = .next t ∧ Joins r' h' [] t :=
    run_interleaving hz hfree (joins_start s zs) hwf hp rfl hhost hticks
  obtain ⟨u, hu, es, hes, rfl⟩ := hrun (interleaving_append _ _)
  refine ⟨_, hu, fun zs hz => ?_⟩
  obtain ⟨t, ht, es', hes', rfl⟩ := hrun hz
  exact ⟨_, ht, rfl, hes'.trans hes.symm⟩

end Sys2Proof.Machine
end
